-- ==== Sys2Proof/Word.lean ====
section
/-!
DEFINITION. The two word types of the block: the byte of the bus, the buffer and the operation script, and the
16-bit word of the operation encoding (`30_encoding.md` R91) and of the wide registers (`10_state.md` R56).
-/

namespace Sys2Proof

/-- A byte. -/
abbrev Byte := BitVec 8

/-- A 16-bit word. -/
abbrev Word16 := BitVec 16

end Sys2Proof
end

