-- ==== Sys2Proof/Config.lean ====
section
/-!
DEFINITION. The implementation parameters of `00_scope.md` R8, their constraints (R9), the example set EX1, and the
one free value of the model.
-/

namespace Sys2Proof

/-- `CMD_SOURCE` (R8): where motor commands come from. -/
inductive CmdSource where
  | fixedProfile
  | pulseDecoded
deriving DecidableEq, Repr

/-- `MOT_VARIANT` (R8): A, dual 16-bit timers; B, one 8-bit timer with two compare channels. -/
inductive MotVariant where
  | a
  | b
deriving DecidableEq, Repr

/-- The parameters of `00_scope.md` R8 that the source leaves open or gives as a default: constants of one
machine. -/
structure Config where
  /-- `CPU_HZ` -/
  cpuHz : Nat
  /-- `BUS_TARGET_HZ`, the operand of the start-up BUS.INIT; default 50 000 -/
  busTargetHz : BitVec 32
  /-- `DEV_ADDR`, the 7-bit peripheral address -/
  devAddr : BitVec 7
  /-- `SETTLE`, timing only: no rule reads it (`70_reset_and_hazards.md` R318) -/
  settle : Nat
  /-- `CMD_SOURCE` -/
  cmdSource : CmdSource
  /-- `PD_WIN_SHORT`, the window of channels 0 to 3 in samples -/
  pdWinShort : Nat
  /-- `PD_WIN_LONG`, the window of channel 4 in samples -/
  pdWinLong : Nat
  /-- `ESC_CNT_MIN` -/
  escCntMin : Nat
  /-- `ESC_CNT_MAX` -/
  escCntMax : Nat
  /-- `ESC_CNT_SHUT` -/
  escCntShut : Nat
  /-- `ESC_Q_LO` -/
  escQLo : Nat
  /-- `ESC_Q_HI` -/
  escQHi : Nat
  /-- `ESC_LVL0` -/
  escLvl0 : Byte
  /-- `ESC_LVL1` -/
  escLvl1 : Byte
  /-- `ESC_LVL2` -/
  escLvl2 : Byte
  /-- `MOT_VARIANT` -/
  motVariant : MotVariant
  /-- `MOT_TOP_A`, the period of each 16-bit timer of variant A -/
  motTopA : Nat
  /-- `MOT_MARGIN` -/
  motMargin : Nat
  /-- `ESC_FRAME`, the ESC timer's period -/
  escFrame : Nat
  /-- `ESC_W_MIN` -/
  escWMin : Nat
  /-- `ESC_W_MAX` -/
  escWMax : Nat
  /-- `ORI_REF`, component x -/
  oriRefX : Int
  /-- `ORI_REF`, component y -/
  oriRefY : Int
  /-- `ORI_REF`, component z -/
  oriRefZ : Int
  /-- `ORI_DOT_DIV` -/
  oriDotDiv : Nat
  /-- `ORI_TIMEOUT` -/
  oriTimeout : Nat
  /-- `SCH_N` -/
  schN : Nat
  /-- `SCH_M` -/
  schM : Nat
  /-- `ACC_REG_CTRL` -/
  accRegCtrl : Byte
  /-- `ACC_REG_STATUS` -/
  accRegStatus : Byte
  /-- `ACC_REG_OUT` -/
  accRegOut : Byte
  /-- `ACC_CTRL_VAL` -/
  accCtrlVal : Byte
  /-- `FIXED_PWR0`; R8 states no range (log 27) -/
  fixedPwr0 : Int
  /-- `FIXED_PWR1`; R8 states no range (log 27) -/
  fixedPwr1 : Int
  /-- `FIXED_ESC`; R8 states no range, and MOT.SETE's argument is clamped (`42_motor_driver.md` R192, log 27) -/
  fixedEsc : Int
deriving DecidableEq, Repr

/-- `BUF_CAP` (R8): the capacity of the transaction buffer. -/
def Config.bufCap : Nat := 16

/-- `BUS_DIV_BITS` (R8, decision D6): the width of the divisor register. -/
def Config.busDivBits : Nat := 8

/-- `PD_NCH` (R8): the number of sampled input lines. -/
def Config.pdNch : Nat := 5

/-- `MOT_TOP_B` (R8): the period of variant B's free-running 8-bit counter. -/
def Config.motTopB : Nat := 256

/-- `ORI_DEADZONE` (R8, `43_orientation_filter.md` R232). -/
def Config.oriDeadzone : Int := 2

/-- `ATOMIC_BITS` (R8, decision D7). -/
def Config.atomicBits : Nat := 8

/-- The constraints of `00_scope.md` R9 and the ranges of R8's value column. A machine refuses a configuration that
breaks one (F1 of `93_implementation_defined.md`). `ESC_FRAME <= 65536` is DEDUCED from the 16 bits of `esccnt`
(`10_state.md` R44), log 3. -/
abbrev Config.Valid (c : Config) : Prop :=
  (1 ≤ c.cpuHz) ∧
  (1 ≤ c.pdWinShort ∧ c.pdWinShort ≤ 65535) ∧
  (1 ≤ c.pdWinLong ∧ c.pdWinLong ≤ 65535) ∧
  (c.escCntMin < c.escCntMax) ∧
  (c.escQLo ≤ c.escQHi) ∧
  (2 ≤ c.motTopA ∧ c.motTopA ≤ 65535) ∧
  (1 ≤ c.motMargin ∧ c.motMargin ≤ 127) ∧
  (0 < c.escWMin ∧ c.escWMin < c.escWMax ∧ c.escWMax < c.escFrame ∧ c.escFrame ≤ 65536) ∧
  (1 ≤ c.oriDotDiv) ∧
  (1 ≤ c.oriTimeout) ∧
  (1 ≤ c.schN) ∧
  (1 ≤ c.schM)

/-- The example set EX1 of `00_scope.md` R8, column EX1. `settle` and the three `FIXED_` values have no EX1 value
there and are 0 here: DESIGN CHOICE, log 2. -/
def Config.ex1 : Config where
  cpuHz := 16000000
  busTargetHz := 50000#32
  devAddr := 0x1D#7
  settle := 0
  cmdSource := .pulseDecoded
  pdWinShort := 64
  pdWinLong := 400
  escCntMin := 20
  escCntMax := 40
  escCntShut := 10
  escQLo := 85
  escQHi := 170
  escLvl0 := 0#8
  escLvl1 := 128#8
  escLvl2 := 255#8
  motVariant := .b
  motTopA := 1020
  motMargin := 4
  escFrame := 40000
  escWMin := 2000
  escWMax := 4000
  oriRefX := 0
  oriRefY := 0
  oriRefZ := 1
  oriDotDiv := 64
  oriTimeout := 50
  schN := 3
  schM := 1000
  accRegCtrl := 0x2A#8
  accRegStatus := 0x00#8
  accRegOut := 0x01#8
  accCtrlVal := 0x01#8
  fixedPwr0 := 0
  fixedPwr1 := 0
  fixedEsc := 0

/-- The byte a read of `BUSDATA` gives when no received byte is pending: `30_encoding.md` R109 says it is
unspecified (U12, treatment `any value`). A free value: nothing is known of it. Log 17. -/
opaque Config.freeBusData : Nat → Byte

end Sys2Proof
end

