-- ==== Sys2Proof/Syntax.lean ====
section
/-!
DEFINITION. The 37 operations of `30_encoding.md` R96, one constructor per row of `opcode_table.json`, in its order.
-/

namespace Sys2Proof

/-- A brushed motor, `m` = 0 or 1 (`42_motor_driver.md` R190). -/
inductive MotorId where
  | m0
  | m1
deriving DecidableEq, Repr

/-- The tick counter SCH.TAKE selects (`44_scheduler.md` R252): 0 is `tickn`, 1 is `tickm`. -/
inductive TickCtr where
  | n
  | m
deriving DecidableEq, Repr

/-- An operation (`00_scope.md` R4): one host command or one hardware event. Operands whose range is smaller than
their field keep the field's bits, because a value out of range is refused by the well-formedness check and not by
the decoder (`30_encoding.md` R98). -/
inductive Instr where
  /-- BUS.INIT `targetHz` (R130) -/
  | busInit (targetHz : BitVec 32)
  /-- BUS.SEND `n`, payload; `n` is the payload's length (R132) -/
  | busSend (payload : List Byte)
  /-- BUS.RECV `n` (R133) -/
  | busRecv (n : Byte)
  /-- BUS.RET (R135) -/
  | busRet
  /-- EV.START, status 0x08 (R136) -/
  | evStart
  /-- EV.RSTART, status 0x10 (R138) -/
  | evRstart
  /-- EV.SLAW_ACK, status 0x18 (R139) -/
  | evSlawAck
  /-- EV.SLAW_NACK, status 0x20 (R142) -/
  | evSlawNack
  /-- EV.TXD_ACK, status 0x28 (R140) -/
  | evTxdAck
  /-- EV.TXD_NACK, status 0x30 (R143) -/
  | evTxdNack
  /-- EV.SLAR_ACK, status 0x40 (R144) -/
  | evSlarAck
  /-- EV.SLAR_NACK, status 0x48 (R145) -/
  | evSlarNack
  /-- EV.RXD_ACK `d`, status 0x50 (R146) -/
  | evRxdAck (d : Byte)
  /-- EV.RXD_NACK `d`, status 0x58 (R149) -/
  | evRxdNack (d : Byte)
  /-- EV.OTHER `status` (R151) -/
  | evOther (status : Byte)
  /-- EV.STOPDONE (R147) -/
  | evStopdone
  /-- PD.TICK, bit `c` the level of channel `c` (R171) -/
  | pdTick (levels : BitVec 5)
  /-- PD.READ `c` (R176) -/
  | pdRead (channel : BitVec 3)
  /-- PD.READSHUT (R177) -/
  | pdReadshut
  /-- MOT.SETB `m`, `power` (R191) -/
  | motSetb (m : MotorId) (power : Word16)
  /-- MOT.SETE `power` (R192) -/
  | motSete (power : Byte)
  /-- MOT.SHUT `flag` (R193) -/
  | motShut (flag : Bool)
  /-- MOT.RECOMP (R196) -/
  | motRecomp
  /-- MOT.ON `m` (R200) -/
  | motOn (m : MotorId)
  /-- MOT.OFF `m` (R201) -/
  | motOff (m : MotorId)
  /-- MOT.OVF (R202) -/
  | motOvf
  /-- ESC.ASSERT (R205) -/
  | escAssert
  /-- ESC.DEASSERT (R206) -/
  | escDeassert
  /-- TMR.TICK `t` (R210) -/
  | tmrTick (t : BitVec 2)
  /-- MOT.SETBL `m`, low byte (R197) -/
  | motSetbl (m : MotorId) (b : Byte)
  /-- MOT.SETBH `m`, high byte (R198) -/
  | motSetbh (m : MotorId) (b : Byte)
  /-- ORI.UPDATE, the six sample bytes xL, xH, yL, yH, zL, zH (R233) -/
  | oriUpdate (xl xh yl yh zl zh : Byte)
  /-- ORI.SIGN (R237) -/
  | oriSign
  /-- SCH.DTICK (R251) -/
  | schDtick
  /-- IRQ.DISABLE `s` (R281) -/
  | irqDisable (source : BitVec 3)
  /-- IRQ.ENABLE `s` (R282) -/
  | irqEnable (source : BitVec 3)
  /-- SCH.TAKE `k` (R252) -/
  | schTake (k : TickCtr)
deriving DecidableEq, Repr

end Sys2Proof
end

