-- ==== Sys2Proof/WellFormed.lean ====
section
/-!
DEFINITION. The well-formedness of an operation in a configuration: the operand ranges of `30_encoding.md` R98.
-/

namespace Sys2Proof

/-- The ten status codes of `30_encoding.md` R101. -/
def listedStatus : List Byte :=
  [0x08#8, 0x10#8, 0x18#8, 0x20#8, 0x28#8, 0x30#8, 0x40#8, 0x48#8, 0x50#8, 0x58#8]

/-- Interrupt sources 0 to 5, source 3 (brushed timer 1) only in variant A (R98). -/
def sourceInRange (c : Config) (s : BitVec 3) : Bool :=
  decide (s.toNat ≤ 5) && (decide (s.toNat ≠ 3) || decide (c.motVariant = .a))

/-- `30_encoding.md` R98: an operation whose operand is out of its row's range, or that belongs to the other motor
variant or to the absent decoder, is ill-formed. An EV.OTHER that carries a listed code has no encoding of its own
(R96, R103) and is ill-formed too. -/
def Instr.wellFormed (c : Config) (i : Instr) : Bool :=
  match i with
  | .busInit _ => true
  | .busSend p => decide (1 ≤ p.length ∧ p.length ≤ 16)
  | .busRecv n => decide (1 ≤ n.toNat ∧ n.toNat ≤ 16)
  | .busRet => true
  | .evStart => true
  | .evRstart => true
  | .evSlawAck => true
  | .evSlawNack => true
  | .evTxdAck => true
  | .evTxdNack => true
  | .evSlarAck => true
  | .evSlarNack => true
  | .evRxdAck _ => true
  | .evRxdNack _ => true
  | .evOther st => decide (st &&& 0xF8#8 ∉ listedStatus)
  | .evStopdone => true
  | .pdTick _ => decide (c.cmdSource = .pulseDecoded)
  | .pdRead ch => decide (c.cmdSource = .pulseDecoded) && decide (ch.toNat ≤ 4)
  | .pdReadshut => decide (c.cmdSource = .pulseDecoded)
  | .motSetb _ _ => true
  | .motSete _ => true
  | .motShut _ => true
  | .motRecomp => true
  | .motOn _ => decide (c.motVariant = .a)
  | .motOff _ => true
  | .motOvf => decide (c.motVariant = .b)
  | .escAssert => true
  | .escDeassert => true
  | .tmrTick t => decide (t.toNat ≤ 2) && (decide (t.toNat ≠ 1) || decide (c.motVariant = .a))
  | .motSetbl _ _ => true
  | .motSetbh _ _ => true
  | .oriUpdate _ _ _ _ _ _ => true
  | .oriSign => true
  | .schDtick => true
  | .irqDisable s => sourceInRange c s
  | .irqEnable s => sourceInRange c s
  | .schTake _ => true

end Sys2Proof
end

