-- ==== Sys2Proof/Decode.lean ====
section
/-!
DEFINITION. The decoder of `30_encoding.md` R91 to R97, total on any bytes, and after it the encoder written from the
same table.
-/

namespace Sys2Proof

/-- The rows of `30_encoding.md` R96, by name. -/
inductive Op where
  | busInit | busSend | busRecv | busRet
  | evStart | evRstart | evSlawAck | evSlawNack | evTxdAck | evTxdNack | evSlarAck | evSlarNack
  | evRxdAck | evRxdNack | evOther | evStopdone
  | pdTick | pdRead | pdReadshut
  | motSetb | motSete | motShut | motRecomp | motOn | motOff | motOvf | escAssert | escDeassert
  | tmrTick | motSetbl | motSetbh
  | oriUpdate | oriSign
  | schDtick | irqDisable | irqEnable | schTake
deriving DecidableEq, Repr

/-- One row of the operation table: a word `w` selects it when `w and mask = pat`. -/
structure Row where
  op : Op
  pat : Word16
  mask : Word16
deriving DecidableEq, Repr

/-- The operation table of `30_encoding.md` R96, rows in the order they are tried. -/
def opTable : List Row :=
  [ ⟨.busInit, 0x0000#16, 0xFFFF#16⟩,
    ⟨.busSend, 0x0100#16, 0xFF00#16⟩,
    ⟨.busRecv, 0x0200#16, 0xFF00#16⟩,
    ⟨.busRet, 0x0300#16, 0xFFFF#16⟩,
    ⟨.evStart, 0x1008#16, 0xFFF8#16⟩,
    ⟨.evRstart, 0x1010#16, 0xFFF8#16⟩,
    ⟨.evSlawAck, 0x1018#16, 0xFFF8#16⟩,
    ⟨.evSlawNack, 0x1020#16, 0xFFF8#16⟩,
    ⟨.evTxdAck, 0x1028#16, 0xFFF8#16⟩,
    ⟨.evTxdNack, 0x1030#16, 0xFFF8#16⟩,
    ⟨.evSlarAck, 0x1040#16, 0xFFF8#16⟩,
    ⟨.evSlarNack, 0x1048#16, 0xFFF8#16⟩,
    ⟨.evRxdAck, 0x1050#16, 0xFFF8#16⟩,
    ⟨.evRxdNack, 0x1058#16, 0xFFF8#16⟩,
    ⟨.evOther, 0x1000#16, 0xFF00#16⟩,
    ⟨.evStopdone, 0x1100#16, 0xFFFF#16⟩ ] ++
  [ ⟨.pdTick, 0x2000#16, 0xFFE0#16⟩,
    ⟨.pdRead, 0x2100#16, 0xFFF8#16⟩,
    ⟨.pdReadshut, 0x2200#16, 0xFFFF#16⟩,
    ⟨.motSetb, 0x3000#16, 0xFFFE#16⟩,
    ⟨.motSete, 0x3100#16, 0xFF00#16⟩,
    ⟨.motShut, 0x3200#16, 0xFFFE#16⟩,
    ⟨.motRecomp, 0x3300#16, 0xFFFF#16⟩,
    ⟨.motOn, 0x3400#16, 0xFFFE#16⟩,
    ⟨.motOff, 0x3500#16, 0xFFFE#16⟩,
    ⟨.motOvf, 0x3600#16, 0xFFFF#16⟩,
    ⟨.escAssert, 0x3700#16, 0xFFFF#16⟩,
    ⟨.escDeassert, 0x3800#16, 0xFFFF#16⟩,
    ⟨.tmrTick, 0x3900#16, 0xFFFC#16⟩,
    ⟨.motSetbl, 0x3A00#16, 0xFFFE#16⟩,
    ⟨.motSetbh, 0x3B00#16, 0xFFFE#16⟩,
    ⟨.oriUpdate, 0x4000#16, 0xFFFF#16⟩,
    ⟨.oriSign, 0x4100#16, 0xFFFF#16⟩,
    ⟨.schDtick, 0x5000#16, 0xFFFF#16⟩,
    ⟨.irqDisable, 0x5100#16, 0xFFF8#16⟩,
    ⟨.irqEnable, 0x5200#16, 0xFFF8#16⟩,
    ⟨.schTake, 0x5300#16, 0xFFFE#16⟩ ]

/-- Does the word select the row (R96)? -/
def Row.selects (r : Row) (w : Word16) : Bool := w &&& r.mask == r.pat

/-- The first row the word selects (R96: the first match wins). -/
def selectRow (w : Word16) : Option Op := (opTable.find? (·.selects w)).map (·.op)

/-- What the decoder answers. -/
inductive Decoded where
  /-- An operation, its length in bytes and the bytes after it. -/
  | instr (i : Instr) (len : Nat) (rest : List Byte)
  /-- The word selects no row: reserved (R97). -/
  | reserved (w : Word16)
  /-- Fewer bytes than the operation has (`2 + ext`, R92). -/
  | truncated
  /-- No byte is left: the script is at its end (`70_reset_and_hazards.md` R335). -/
  | ended
deriving DecidableEq, Repr

/-- The word of two bytes, low byte first (R91). -/
def wordOf (lo hi : Byte) : Word16 := hi ++ lo

/-- `W[7:0]`, the immediate (R91). -/
def immOf (w : Word16) : Byte := w.extractLsb' 0 8

/-- The motor in `imm[0]` (R93). -/
def motorOf (w : Word16) : MotorId := if w.getLsbD 0 then .m1 else .m0

/-- An operation of format W: no extension byte (R92). -/
def plainOp (i : Instr) (ext : List Byte) : Decoded := .instr i 2 ext

/-- An operation of format W+B: one extension byte (R92). -/
def byteOp (f : Byte → Instr) (ext : List Byte) : Decoded :=
  match ext with
  | b :: rest => .instr (f b) 3 rest
  | [] => .truncated

/-- Assemble the operation of a row from its word and the bytes after the word (R92, R93). -/
def build (op : Op) (w : Word16) (ext : List Byte) : Decoded :=
  match op with
  | .busInit =>
    match ext with
    | e0 :: e1 :: e2 :: e3 :: rest => .instr (.busInit (e3 ++ e2 ++ e1 ++ e0)) 6 rest
    | _ => .truncated
  | .busSend =>
    let n := (immOf w).toNat
    if n ≤ ext.length then .instr (.busSend (ext.take n)) (2 + n) (ext.drop n) else .truncated
  | .busRecv => plainOp (.busRecv (immOf w)) ext
  | .busRet => plainOp .busRet ext
  | .evStart => plainOp .evStart ext
  | .evRstart => plainOp .evRstart ext
  | .evSlawAck => plainOp .evSlawAck ext
  | .evSlawNack => plainOp .evSlawNack ext
  | .evTxdAck => plainOp .evTxdAck ext
  | .evTxdNack => plainOp .evTxdNack ext
  | .evSlarAck => plainOp .evSlarAck ext
  | .evSlarNack => plainOp .evSlarNack ext
  | .evRxdAck => byteOp .evRxdAck ext
  | .evRxdNack => byteOp .evRxdNack ext
  | .evOther => plainOp (.evOther (immOf w)) ext
  | .evStopdone => plainOp .evStopdone ext
  | .pdTick => plainOp (.pdTick (w.extractLsb' 0 5)) ext
  | .pdRead => plainOp (.pdRead (w.extractLsb' 0 3)) ext
  | .pdReadshut => plainOp .pdReadshut ext
  | .motSetb =>
    match ext with
    | e0 :: e1 :: rest => .instr (.motSetb (motorOf w) (e1 ++ e0)) 4 rest
    | _ => .truncated
  | .motSete => plainOp (.motSete (immOf w)) ext
  | .motShut => plainOp (.motShut (w.getLsbD 0)) ext
  | .motRecomp => plainOp .motRecomp ext
  | .motOn => plainOp (.motOn (motorOf w)) ext
  | .motOff => plainOp (.motOff (motorOf w)) ext
  | .motOvf => plainOp .motOvf ext
  | .escAssert => plainOp .escAssert ext
  | .escDeassert => plainOp .escDeassert ext
  | .tmrTick => plainOp (.tmrTick (w.extractLsb' 0 2)) ext
  | .motSetbl => byteOp (.motSetbl (motorOf w)) ext
  | .motSetbh => byteOp (.motSetbh (motorOf w)) ext
  | .oriUpdate =>
    match ext with
    | xl :: xh :: yl :: yh :: zl :: zh :: rest => .instr (.oriUpdate xl xh yl yh zl zh) 8 rest
    | _ => .truncated
  | .oriSign => plainOp .oriSign ext
  | .schDtick => plainOp .schDtick ext
  | .irqDisable => plainOp (.irqDisable (w.extractLsb' 0 3)) ext
  | .irqEnable => plainOp (.irqEnable (w.extractLsb' 0 3)) ext
  | .schTake => plainOp (.schTake (if w.getLsbD 0 then .m else .n)) ext

/-- Decode the operation a word and the bytes after it spell: by the first row the word selects, or refused as
reserved (R96, R97). -/
def decodeWord (w : Word16) (ext : List Byte) : Decoded :=
  match selectRow w with
  | some op => build op w ext
  | none => .reserved w

/-- Decode the first operation of a byte stream (R91). -/
def decode (bytes : List Byte) : Decoded :=
  match bytes with
  | [] => .ended
  | [_] => .truncated
  | lo :: hi :: ext => decodeWord (wordOf lo hi) ext

/-- The longest operation the decoder reads: a word and 255 extension bytes (R92, R98). -/
def maxOpBytes : Nat := 257

/-- The low `n` bytes of a number, low byte first. -/
def bytesOfNat : Nat → Nat → List Byte
  | 0, _ => []
  | n + 1, w => BitVec.ofNat 8 (w % 256) :: bytesOfNat n (w / 256)

/-- The bytes of an instruction given as the opcode table numbers its bits: bit 0 is bit 0 of the word, the
extension bytes follow from bit 16 on; every bit from `nbits` up is 0. -/
def tableBytes (nbits w : Nat) : List Byte := bytesOfNat maxOpBytes (w % 2 ^ nbits)

/-- The instruction the decoder reads from an instruction whose bits are `w`. -/
def decodeTableWord (nbits w : Nat) : Option Instr :=
  match decode (tableBytes nbits w) with
  | .instr i _ _ => some i
  | .reserved _ => none
  | .truncated => none
  | .ended => none

/-! The encoder: the words of an operation, from the same table. -/

/-- The row of an operation. -/
def Instr.op : Instr → Op
  | .busInit _ => .busInit
  | .busSend _ => .busSend
  | .busRecv _ => .busRecv
  | .busRet => .busRet
  | .evStart => .evStart
  | .evRstart => .evRstart
  | .evSlawAck => .evSlawAck
  | .evSlawNack => .evSlawNack
  | .evTxdAck => .evTxdAck
  | .evTxdNack => .evTxdNack
  | .evSlarAck => .evSlarAck
  | .evSlarNack => .evSlarNack
  | .evRxdAck _ => .evRxdAck
  | .evRxdNack _ => .evRxdNack
  | .evOther _ => .evOther
  | .evStopdone => .evStopdone
  | .pdTick _ => .pdTick
  | .pdRead _ => .pdRead
  | .pdReadshut => .pdReadshut
  | .motSetb _ _ => .motSetb
  | .motSete _ => .motSete
  | .motShut _ => .motShut
  | .motRecomp => .motRecomp
  | .motOn _ => .motOn
  | .motOff _ => .motOff
  | .motOvf => .motOvf
  | .escAssert => .escAssert
  | .escDeassert => .escDeassert
  | .tmrTick _ => .tmrTick
  | .motSetbl _ _ => .motSetbl
  | .motSetbh _ _ => .motSetbh
  | .oriUpdate _ _ _ _ _ _ => .oriUpdate
  | .oriSign => .oriSign
  | .schDtick => .schDtick
  | .irqDisable _ => .irqDisable
  | .irqEnable _ => .irqEnable
  | .schTake _ => .schTake

/-- The pattern of a row of the table. -/
def Op.pat (op : Op) : Word16 :=
  match opTable.find? (·.op == op) with
  | some r => r.pat
  | none => 0#16

/-- The motor as `imm[0]`. -/
def MotorId.bit : MotorId → Byte
  | .m0 => 0#8
  | .m1 => 1#8

/-- The immediate bits an operand puts into the word (R93); the ignored bits 2:0 of a listed status are 0 (R102). -/
def Instr.imm : Instr → Byte
  | .busInit _ => 0#8
  | .busSend p => BitVec.ofNat 8 p.length
  | .busRecv n => n
  | .busRet => 0#8
  | .evStart => 0#8
  | .evRstart => 0#8
  | .evSlawAck => 0#8
  | .evSlawNack => 0#8
  | .evTxdAck => 0#8
  | .evTxdNack => 0#8
  | .evSlarAck => 0#8
  | .evSlarNack => 0#8
  | .evRxdAck _ => 0#8
  | .evRxdNack _ => 0#8
  | .evOther st => st
  | .evStopdone => 0#8
  | .pdTick lv => lv.setWidth 8
  | .pdRead c => c.setWidth 8
  | .pdReadshut => 0#8
  | .motSetb m _ => m.bit
  | .motSete p => p
  | .motShut f => (BitVec.ofBool f).setWidth 8
  | .motRecomp => 0#8
  | .motOn m => m.bit
  | .motOff m => m.bit
  | .motOvf => 0#8
  | .escAssert => 0#8
  | .escDeassert => 0#8
  | .tmrTick t => t.setWidth 8
  | .motSetbl m _ => m.bit
  | .motSetbh m _ => m.bit
  | .oriUpdate _ _ _ _ _ _ => 0#8
  | .oriSign => 0#8
  | .schDtick => 0#8
  | .irqDisable s => s.setWidth 8
  | .irqEnable s => s.setWidth 8
  | .schTake k => match k with | .n => 0#8 | .m => 1#8

/-- Byte `k` of a bit vector, from the least significant byte. -/
def byteOf {n : Nat} (v : BitVec n) (k : Nat) : Byte := v.extractLsb' (8 * k) 8

/-- The extension bytes of an operation, in order (R92). -/
def Instr.ext : Instr → List Byte
  | .busInit hz => [byteOf hz 0, byteOf hz 1, byteOf hz 2, byteOf hz 3]
  | .busSend p => p
  | .busRecv _ => []
  | .busRet => []
  | .evStart => []
  | .evRstart => []
  | .evSlawAck => []
  | .evSlawNack => []
  | .evTxdAck => []
  | .evTxdNack => []
  | .evSlarAck => []
  | .evSlarNack => []
  | .evRxdAck d => [d]
  | .evRxdNack d => [d]
  | .evOther _ => []
  | .evStopdone => []
  | .pdTick _ => []
  | .pdRead _ => []
  | .pdReadshut => []
  | .motSetb _ p => [byteOf p 0, byteOf p 1]
  | .motSete _ => []
  | .motShut _ => []
  | .motRecomp => []
  | .motOn _ => []
  | .motOff _ => []
  | .motOvf => []
  | .escAssert => []
  | .escDeassert => []
  | .tmrTick _ => []
  | .motSetbl _ b => [b]
  | .motSetbh _ b => [b]
  | .oriUpdate xl xh yl yh zl zh => [xl, xh, yl, yh, zl, zh]
  | .oriSign => []
  | .schDtick => []
  | .irqDisable _ => []
  | .irqEnable _ => []
  | .schTake _ => []

/-- The operation word: the row's pattern with the immediate in bits 7:0 (R91). -/
def Instr.word (i : Instr) : Word16 := i.op.pat ||| i.imm.setWidth 16

/-- The bytes of an operation: the word low byte first, then the extension bytes (R91). -/
def encode (i : Instr) : List Byte := byteOf i.word 0 :: byteOf i.word 1 :: i.ext

/-- The bytes of a script: its operations one after another. -/
def encodeScript (is : List Instr) : List Byte := is.flatMap encode

end Sys2Proof
end

