-- ==== Sys2Proof/Machine/State.lean ====
section
/-!
DEFINITION. The state of the block (`10_state.md`), its refusals and its one fault, and the state after reset
(`70_reset_and_hazards.md` R300). A field the spec resets to "unspecified" holds a named value, with a companion bit
`...Set` that says whether it has been written since (log 6).
-/

namespace Sys2Proof.Machine

/-- `link` (`10_state.md` R24, R25). -/
inductive LinkState where
  | idle
  | addressPhase
  | transmitPhase
  | receivePhaseMulti
  | receivePhaseLast
  | stopPending
deriving DecidableEq, Repr

/-- `dir` (`10_state.md` R26). -/
inductive Dir where
  | send
  | receive
deriving DecidableEq, Repr

/-- `outcome` (`10_state.md` R28). -/
inductive TxOutcome where
  | pending
  | acked
  | nackAbort
deriving DecidableEq, Repr

/-- A sign -1, 0, +1 (`10_state.md` R48, R49). -/
inductive Sign where
  | neg
  | zero
  | pos
deriving DecidableEq, Repr

/-- `host.blocked` (`10_state.md` R33). -/
inductive Blocked where
  | none
  | inSend
  | inRecv
deriving DecidableEq, Repr

/-- `eng.req`: the action the byte engine has been given and has not carried out (`10_state.md` R31). -/
inductive EngReq where
  | none
  | start
  | tx (b : Byte)
  | rx (ack : Bool)
  | stop
deriving DecidableEq, Repr

/-- `eng.phase` (`10_state.md` R31). -/
inductive EngPhase where
  | afterStart
  | mt
  | mr
deriving DecidableEq, Repr

/-- A status event: an 8-bit status code plus, for a receive, one data byte (`00_scope.md` R14, `10_state.md` R31). -/
structure BusEvent where
  status : Byte
  data : Option Byte
deriving DecidableEq, Repr

/-- A symbol of the wire log (`40_bus_driver.md` R126). In `byte b k` the bit `k` is the acknowledge bit as a wire
level: false (0) acknowledged, true (1) not acknowledged. -/
inductive WireSym where
  | s
  | sr
  | byte (b : Byte) (k : Bool)
  | p
deriving DecidableEq, Repr

/-- One write of output pins: both pins of a motor in one step (`42_motor_driver.md` R199), or the ESC pin. -/
inductive PinWrite where
  | motor (m : MotorId) (a b : Bool)
  | esc (v : Bool)
deriving DecidableEq, Repr

/-- A value returned to the host (`30_encoding.md` R114). -/
inductive HostResult where
  /-- BUS.RET after a send -/
  | sent (ok : Bool)
  /-- BUS.RET after a receive -/
  | received (bytes : Option (List Byte))
  /-- PD.READ -/
  | duty (b : Byte)
  /-- PD.READSHUT -/
  | shut (v : Bool)
  /-- ORI.SIGN -/
  | sign (v : Sign)
  /-- SCH.TAKE -/
  | taken (v : Bool)
deriving DecidableEq, Repr

/-- The interrupt sources 0 to 5 (`30_encoding.md` R115). -/
inductive Source where
  | bus
  | sampler
  | brushed0
  | brushed1
  | esc
  | display
deriving DecidableEq, Repr

/-- The handler operations of the timer sources (`10_state.md` R52, `60_exceptions.md` R276). -/
inductive TimerOp where
  | motOn (m : MotorId)
  | motOff (m : MotorId)
  | motOvf
  | escAssert
  | escDeassert
deriving DecidableEq, Repr

/-- The ten listed status events (`30_encoding.md` R101). -/
inductive BusCode where
  | start
  | rstart
  | slawAck
  | slawNack
  | txdAck
  | txdNack
  | slarAck
  | slarNack
  | rxdAck
  | rxdNack
deriving DecidableEq, Repr

/-- The channels of the pulse decoder (`10_state.md` R35). -/
inductive ChanId where
  | c0
  | c1
  | c2
  | c3
  | c4
deriving DecidableEq, Repr

/-- The fields that can be unspecified when a rule reads them (`70_reset_and_hazards.md` R302). -/
inductive Field where
  | busdiv
  | buf
  | cur
  | duty (c : ChanId)
  | shutcond
  | power (m : MotorId)
  | escpower
  | escshut
deriving DecidableEq, Repr

/-- The one byte-addressed memory: cells (index, byte) with rising indices. An index that is not listed holds no
value: it is unspecified (`20_memory.md` R60, R74, log 8). -/
abbrev Memory := List Host.Cell

/-- The canonical form of the transaction buffer: indices strictly rising, all of them below the capacity
(`20_memory.md` R60). -/
abbrev Memory.wf (m : Memory) : Prop :=
  m.Pairwise (fun a b => a.1 < b.1) ∧ ∀ c ∈ m, c.1 < Config.bufCap

/-- BusDriver's fields (`10_state.md` R22 to R30). -/
structure Bus where
  /-- R22 -/
  busdiv : Byte
  /-- BUS.INIT has run -/
  busdivSet : Bool
  /-- R23 -/
  busy : Bool
  /-- R24 -/
  link : LinkState
  /-- R26 -/
  dir : Dir
  /-- R27 -/
  buf : Memory
  /-- R27 -/
  len : BitVec 5
  /-- R27 -/
  cur : BitVec 5
  /-- false after an abort, until the next call entry (`40_bus_driver.md` R137) -/
  curSet : Bool
  /-- R28 -/
  outcome : TxOutcome
  /-- R30 -/
  ackarm : Bool
deriving DecidableEq, Repr

/-- The byte-engine interface (`10_state.md` R31) and the two stored registers of the register face (R32). -/
structure Engine where
  req : EngReq
  evt : Option BusEvent
  /-- the request that stands over while an unexpected status code is held by the disabled bus source (log 10) -/
  standby : EngReq
  phase : EngPhase
  owned : Bool
  /-- the last value written to `BUSCTL` (`30_encoding.md` R107) -/
  busctl : Byte
  /-- the byte last placed in `BUSDATA` (`30_encoding.md` R109) -/
  busdata : Byte
deriving DecidableEq, Repr

/-- One channel's PulseAccumulator and published byte (`10_state.md` R34, R36). -/
structure Chan where
  num : Word16
  den : Word16
  duty : Byte
  /-- the channel has published -/
  dutySet : Bool
deriving DecidableEq, Repr

/-- PulseDecoder's fields (`10_state.md` R34 to R37), and the input levels of the latest PD.TICK word
(`60_exceptions.md` R278, log 19). -/
structure Decoder where
  c0 : Chan
  c1 : Chan
  c2 : Chan
  c3 : Chan
  c4 : Chan
  shutcond : Bool
  /-- channel 4 has published -/
  shutcondSet : Bool
  lines : BitVec 5
deriving DecidableEq, Repr

/-- One brushed motor's fields (`10_state.md` R39, R42, R45). -/
structure Motor where
  power : Word16
  /-- the low byte of `power` has been written -/
  powerLoSet : Bool
  /-- the high byte of `power` has been written -/
  powerHiSet : Bool
  offthr : Word16
  offthrSet : Bool
  pinA : Bool
  pinB : Bool
  pinsSet : Bool
deriving DecidableEq, Repr

/-- The brushless channel's fields (`10_state.md` R40, R41, R43, R45). -/
structure Esc where
  escpower : Byte
  escpowerSet : Bool
  escshut : Bool
  escshutSet : Bool
  escwidth : Word16
  escwidthSet : Bool
  pinesc : Bool
  pinescSet : Bool
deriving DecidableEq, Repr

/-- The timer counters (`10_state.md` R44). In variant B `tcnt1` is absent and stays at its reset value. -/
structure Timers where
  tcnt0 : Word16
  tcnt1 : Word16
  esccnt : Word16
deriving DecidableEq, Repr

/-- OrientationFilter's fields (`10_state.md` R46 to R50). `downness` and `oricnt` are exact numbers (log 15). -/
structure Ori where
  sampleX : Word16
  sampleY : Word16
  sampleZ : Word16
  sampleSet : Bool
  downness : Int
  downnessSet : Bool
  oriraw : Sign
  orifilt : Sign
  oricnt : Nat
deriving DecidableEq, Repr

/-- `irqen` and `irqpend` (`10_state.md` R52). `irqpend[0]` is `eng.evt`. -/
structure Irq where
  enBus : Bool
  enSampler : Bool
  enBrushed0 : Bool
  enBrushed1 : Bool
  enEsc : Bool
  enDisplay : Bool
  pendSampler : Bool
  pendDisplay : Bool
  pendBrushed0 : List TimerOp
  pendBrushed1 : List TimerOp
  pendEsc : List TimerOp
deriving DecidableEq, Repr

/-- The whole state. -/
structure State where
  /-- the parameters of R8: no step changes them (log 1) -/
  cfg : Config
  bus : Bus
  eng : Engine
  /-- `host.blocked` (R33) -/
  blocked : Blocked
  pd : Decoder
  mot0 : Motor
  mot1 : Motor
  esc : Esc
  tmr : Timers
  ori : Ori
  irq : Irq
  /-- R51 -/
  tickn : Word16
  /-- R51 -/
  tickm : Word16
  /-- the wire log (`40_bus_driver.md` R126); read by no rule -/
  buslog : List WireSym
  /-- the pin trace (`20_memory.md` R83); read by no rule -/
  pinlog : List PinWrite
  /-- the values returned to the host (`30_encoding.md` R114); read by no rule -/
  results : List HostResult
  /-- the bytes of the operation script not yet taken (log 4) -/
  script : List Byte
  /-- how many bytes of the script have been taken (log 4) -/
  spos : Nat
deriving DecidableEq, Repr

/-- What stops a run without a refusal. The block itself has no fault (`00_scope.md` R13). -/
inductive Fault where
  /-- Raised by `step` when the script has no more bytes: the run has ended (`70_reset_and_hazards.md` R335);
  `complete` says whether no transaction was in flight. Safe: nothing is claimed of the block. -/
  | scriptEnded (complete : Bool)
deriving DecidableEq, Repr

/-- The refusals: operations the spec gives no step (`60_exceptions.md` R274, list F1 to F18 of
`93_implementation_defined.md`). All of them are safe: a refused run proves nothing. -/
inductive Refusal where
  /-- Raised by `exec` for an instruction that has no meaning yet: safe. None is left. -/
  | notModelled (mnemonic : String)
  /-- Raised by `step`: the configuration breaks a constraint of R9 (F1). Safe. -/
  | badConfig
  /-- Raised by `step`: the word at this byte position selects no row (R97, F2). Safe. -/
  | reservedWord (pos : Nat) (w : Word16)
  /-- Raised by `step`: the script ends inside the operation at this position. Safe (log 5). -/
  | truncated (pos : Nat)
  /-- Raised by `step` and by the meanings: an operand out of range, or an operation of the other motor variant
  (R98, F3). Safe. -/
  | illFormed
  /-- Raised by PD.TICK, PD.READ, PD.READSHUT with `CMD_SOURCE = FixedProfile` (`10_state.md` R38, F4). Safe. -/
  | noDecoder
  /-- Raised by BUS.INIT while the host is blocked or `busy = 1` (R130, F5). Safe. -/
  | initDuringTransaction
  /-- Raised by BUS.INIT with `targetHz = 0` (R130, F6). Safe. -/
  | divisionByZero
  /-- Raised by BUS.INIT: the divisor would be negative (R130, F6). Safe. -/
  | clockTooFast
  /-- Raised by BUS.INIT: the divisor exceeds BUS_DIV_BITS (R130, F6). Safe. -/
  | clockTooSlow
  /-- Raised by every host operation other than BUS.RET and BUS.INIT while the host is blocked
  (`10_state.md` R33, F7, F9, F17). Safe. -/
  | hostBlocked
  /-- Raised by BUS.SEND and BUS.RECV while `busy = 1` (R131 (b), F7). Safe. -/
  | busBusy
  /-- Raised by BUS.SEND and BUS.RECV while `link != Idle` (R131 (b), F7). Safe. -/
  | linkNotIdle
  /-- Raised by BUS.SEND and BUS.RECV with a count of 0 or above 16 (R131 (d), F7). Safe. -/
  | badCount
  /-- Raised by BUS.RET outside its context (R135, F8). Safe. -/
  | retNotEnabled
  /-- Raised by a listed bus event or EV.STOPDONE outside its context (R147, R152, F10). Safe. -/
  | outOfContract
  /-- Raised by EV.OTHER while an event of the disabled bus source is already held: no second event can occur
  (`60_exceptions.md` R278, log 10). Safe. -/
  | eventHeld
  /-- Raised by a buffer access at an index of 16 or more (`20_memory.md` R68, F11). Safe. -/
  | bufIndex
  /-- Raised by a rule that reads an unspecified field: the spec gives the operation no step then (`00_scope.md` R11,
  `70_reset_and_hazards.md` R302, F7, F12, F13, F14, F18; the lines of NOTES.md, Stops). Safe. -/
  | unspecifiedField (f : Field)
  /-- Raised by SCH.TAKE while source 5 is enabled (R252, F16). Safe. -/
  | unguardedTake
deriving DecidableEq, Repr

/-- BusDriver's fields at reset (R300). -/
def Bus.reset : Bus where
  busdiv := 0#8
  busdivSet := false
  busy := false
  link := .idle
  dir := .send
  buf := []
  len := 0#5
  cur := 0#5
  curSet := true
  outcome := .pending
  ackarm := false

/-- The byte engine's fields at reset (R300); no request stands over (log 10), and the register face holds 0
(DESIGN CHOICE, log 16). -/
def Engine.reset : Engine where
  req := .none
  evt := none
  standby := .none
  phase := .afterStart
  owned := false
  busctl := 0#8
  busdata := 0#8

/-- One channel at reset (R300). -/
def Chan.reset : Chan where
  num := 0#16
  den := 0#16
  duty := 0#8
  dutySet := false

/-- PulseDecoder's fields at reset (R300). -/
def Decoder.reset : Decoder where
  c0 := Chan.reset
  c1 := Chan.reset
  c2 := Chan.reset
  c3 := Chan.reset
  c4 := Chan.reset
  shutcond := false
  shutcondSet := false
  lines := 0#5

/-- One motor at reset (R300). -/
def Motor.reset : Motor where
  power := 0#16
  powerLoSet := false
  powerHiSet := false
  offthr := 0#16
  offthrSet := false
  pinA := false
  pinB := false
  pinsSet := false

/-- The brushless channel at reset (R300). -/
def Esc.reset : Esc where
  escpower := 0#8
  escpowerSet := false
  escshut := false
  escshutSet := false
  escwidth := 0#16
  escwidthSet := false
  pinesc := false
  pinescSet := false

/-- The timers at reset (R300). -/
def Timers.reset : Timers where
  tcnt0 := 0#16
  tcnt1 := 0#16
  esccnt := 0#16

/-- OrientationFilter's fields at reset (R300). -/
def Ori.reset : Ori where
  sampleX := 0#16
  sampleY := 0#16
  sampleZ := 0#16
  sampleSet := false
  downness := 0
  downnessSet := false
  oriraw := .zero
  orifilt := .zero
  oricnt := 0

/-- Interrupt state at reset (R300): every source disabled, nothing pending. -/
def Irq.reset : Irq where
  enBus := false
  enSampler := false
  enBrushed0 := false
  enBrushed1 := false
  enEsc := false
  enDisplay := false
  pendSampler := false
  pendDisplay := false
  pendBrushed0 := []
  pendBrushed1 := []
  pendEsc := []

/-- The state after reset (R300) of a machine with the given parameters; no script is loaded (log 4). -/
def State.resetWith (c : Config) : State where
  cfg := c
  bus := Bus.reset
  eng := Engine.reset
  blocked := .none
  pd := Decoder.reset
  mot0 := Motor.reset
  mot1 := Motor.reset
  esc := Esc.reset
  tmr := Timers.reset
  ori := Ori.reset
  irq := Irq.reset
  tickn := 0#16
  tickm := 0#16
  buslog := []
  pinlog := []
  results := []
  script := []
  spos := 0

/-- The state after reset of the machine with the example parameters EX1 (log 1). -/
def State.reset : State := State.resetWith Config.ex1

/-- The outcomes of this machine. -/
abbrev Out := Host.Outcome State Fault Refusal

end Sys2Proof.Machine
end

