-- ==== Sys2Proof/Machine/Operands.lean ====
section
/-!
DEFINITION. Operand assembly, the arithmetic laws (`00_scope.md` R12), and the encodings of the enumerations
(`30_encoding.md` R105) and of the status codes (R101).
-/

namespace Sys2Proof.Machine

/-- `clamp(x, lo, hi) = min(max(x, lo), hi)` (`00_scope.md` R11). -/
def clamp (x lo hi : Int) : Int := min (max x lo) hi

/-- `sext_16(lo + 256 * hi)` (`20_memory.md` R66). -/
def s16 (lo hi : Byte) : Int := (wordOf lo hi).toInt

/-- `mag(p) = min(abs(p), 255)` (`42_motor_driver.md` R194). -/
def mag (p : Word16) : Nat := min p.toInt.natAbs 255

/-- `pos(p) = (p > 0)` (`42_motor_driver.md` R194). -/
def isPos (p : Word16) : Bool := decide (0 < p.toInt)

/-- The encoding of `link` (`30_encoding.md` R105). -/
def LinkState.code : LinkState → BitVec 3
  | .idle => 0#3
  | .addressPhase => 1#3
  | .transmitPhase => 2#3
  | .receivePhaseMulti => 3#3
  | .receivePhaseLast => 4#3
  | .stopPending => 5#3

/-- The encoding of `dir`, equal to the read/write bit (`10_state.md` R26). -/
def Dir.bit : Dir → Bool
  | .send => false
  | .receive => true

/-- The encoding of `outcome` (`30_encoding.md` R105). -/
def TxOutcome.code : TxOutcome → BitVec 2
  | .pending => 0#2
  | .acked => 1#2
  | .nackAbort => 2#2

/-- The encoding of a sign in two bits (`30_encoding.md` R105). -/
def Sign.code : Sign → BitVec 2
  | .neg => 3#2
  | .zero => 0#2
  | .pos => 1#2

/-- The value of a sign. -/
def Sign.val : Sign → Int
  | .neg => -1
  | .zero => 0
  | .pos => 1

/-- The address byte `(DEV_ADDR << 1) + dir` (`30_encoding.md` R104). -/
def addrByte (c : Config) (d : Dir) : Byte := c.devAddr ++ BitVec.ofBool d.bit

/-- The status code of a listed event (`30_encoding.md` R101). -/
def BusCode.status : BusCode → Byte
  | .start => 0x08#8
  | .rstart => 0x10#8
  | .slawAck => 0x18#8
  | .slawNack => 0x20#8
  | .txdAck => 0x28#8
  | .txdNack => 0x30#8
  | .slarAck => 0x40#8
  | .slarNack => 0x48#8
  | .rxdAck => 0x50#8
  | .rxdNack => 0x58#8

/-- `status and 0xF8`: only bits 7:3 carry the code (`30_encoding.md` R102). -/
def maskStatus (st : Byte) : Byte := st &&& 0xF8#8

/-- The ten listed events. -/
def BusCode.all : List BusCode :=
  [.start, .rstart, .slawAck, .slawNack, .txdAck, .txdNack, .slarAck, .slarNack, .rxdAck, .rxdNack]

/-- The listed event of a status byte, none for an unexpected status code (`30_encoding.md` R101 to R103). -/
def busCodeOf (st : Byte) : Option BusCode := BusCode.all.find? fun c => c.status == maskStatus st

/-- The channel of an index 0..4; 5 to 7 are out of range (`30_encoding.md` R98). -/
def chanOf (c : BitVec 3) : Option ChanId :=
  match c.toNat with
  | 0 => some .c0
  | 1 => some .c1
  | 2 => some .c2
  | 3 => some .c3
  | 4 => some .c4
  | _ => none

/-- The interrupt source of an index (`30_encoding.md` R115): 0..5, 3 only in variant A (R98). -/
def sourceOf (v : MotVariant) (s : BitVec 3) : Option Source :=
  match s.toNat with
  | 0 => some .bus
  | 1 => some .sampler
  | 2 => some .brushed0
  | 3 => match v with | .a => some .brushed1 | .b => none
  | 4 => some .esc
  | 5 => some .display
  | _ => none

/-- The source a timer handler operation belongs to (`30_encoding.md` R115). -/
def TimerOp.source (v : MotVariant) : TimerOp → Source
  | .motOn .m0 => .brushed0
  | .motOn .m1 => .brushed1
  | .motOff .m0 => .brushed0
  | .motOff .m1 => match v with | .a => .brushed1 | .b => .brushed0
  | .motOvf => .brushed0
  | .escAssert => .esc
  | .escDeassert => .esc

/-- The level of channel `c` in a level vector: bit `c` (`30_encoding.md` R93). -/
def levelOf (lv : BitVec 5) : ChanId → Bool
  | .c0 => lv.getLsbD 0
  | .c1 => lv.getLsbD 1
  | .c2 => lv.getLsbD 2
  | .c3 => lv.getLsbD 3
  | .c4 => lv.getLsbD 4

/-- The bus divisor of BUS.INIT (`40_bus_driver.md` R130): `d = (CPU_HZ div targetHz - 16) div 2`, with its three
refusals (F6). -/
def busDivisor (cpuHz targetHz : Nat) : Except Refusal Byte :=
  if targetHz = 0 then .error .divisionByZero
  else if cpuHz / targetHz < 16 then .error .clockTooFast
  else if (cpuHz / targetHz - 16) / 2 > 2 ^ Config.busDivBits - 1 then .error .clockTooSlow
  else .ok (BitVec.ofNat 8 ((cpuHz / targetHz - 16) / 2))

/-- The duty byte of channels 0 to 3 (`41_pulse_decoder.md` R172). -/
def dutyByte (num win : Nat) : Byte :=
  BitVec.ofInt 8 (clamp (((num : Int) * 255).tdiv win) 0 255)

/-- The published byte of channel 4 (`41_pulse_decoder.md` R173). -/
def throttleByte (c : Config) (num : Nat) : Byte :=
  BitVec.ofInt 8 (clamp ((((num : Int) - c.escCntMin) * 255).tdiv ((c.escCntMax : Int) - c.escCntMin)) 0 255)

/-- The off threshold of a power value (`42_motor_driver.md` R196). -/
def offThreshold (c : Config) (p : Word16) : Word16 :=
  match c.motVariant with
  | .a => BitVec.ofNat 16 (mag p * c.motTopA / 255)
  | .b => BitVec.ofNat 16 (mag p)

/-- The ESC pulse width of a power value (`42_motor_driver.md` R207). -/
def escWidth (c : Config) (p : Byte) : Word16 :=
  BitVec.ofNat 16 (c.escWMin + p.toNat * (c.escWMax - c.escWMin) / 255)

/-- `downness` of a sample (`43_orientation_filter.md` R231). -/
def downnessOf (c : Config) (x y z : Int) : Int :=
  ((x * c.oriRefX + y * c.oriRefY + z * c.oriRefZ).tdiv c.oriDotDiv).tdiv 16

end Sys2Proof.Machine
end

