-- ==== Sys2Proof/Machine/Flags.lean ====
section
/-!
DEFINITION. The conditions and status values the rules compute (`10_state.md` R53): the margin classes, the
instantaneous sign, the shutdown condition, the definedness of fields, and the views of the bus controller's
registers (`30_encoding.md` R106 to R109).
-/

namespace Sys2Proof.Machine

/-- `fullyoff(p) = (mag(p) < MOT_MARGIN)` (`42_motor_driver.md` R195). -/
def fullyOff (c : Config) (p : Word16) : Bool := decide (mag p < c.motMargin)

/-- `fullyon(p) = (mag(p) > 255 - MOT_MARGIN)` (`42_motor_driver.md` R195). -/
def fullyOn (c : Config) (p : Word16) : Bool := decide (255 - c.motMargin < mag p)

/-- `rawsign(d)` (`43_orientation_filter.md` R232). -/
def rawSign (d : Int) : Sign :=
  if d ≤ -Config.oriDeadzone then .neg else if Config.oriDeadzone ≤ d then .pos else .zero

/-- The shutdown condition of a raw count (`41_pulse_decoder.md` R174). -/
def shutOf (c : Config) (num : Nat) : Bool := decide (num < c.escCntShut)

/-- `power[m]` is specified when both of its bytes have been written (`42_motor_driver.md` R197, log 18). -/
def Motor.powerSet (m : Motor) : Bool := m.powerLoSet && m.powerHiSet

/-- `irqpend[0]`: an event of the bus source is pending (`10_state.md` R31). -/
def State.busPending (s : State) : Bool := s.eng.evt.isSome

/-- The engine's request: the one that stands over while an unexpected status code is held, which leaves it as it was
(`40_bus_driver.md` R151, log 10). -/
def Engine.openRequest (e : Engine) : EngReq :=
  match e.evt with
  | none => e.req
  | some v => if busCodeOf v.status = none then e.standby else e.req

/-- A read of `BUSDIV` (`30_encoding.md` R106). -/
def State.readBusDiv (s : State) : Byte := s.bus.busdiv

/-- A read of `BUSCTL`: the last value written with bit 7 replaced by the pending flag (`30_encoding.md` R107). -/
def State.readBusCtl (s : State) : Byte :=
  (s.eng.busctl &&& 0x7F#8) ||| (if s.busPending then 0x80#8 else 0x00#8)

/-- A read of `BUSSTAT`: the code of the pending event, 0xF8 with none (`30_encoding.md` R108). -/
def State.readBusStat (s : State) : Byte :=
  match s.eng.evt with
  | some e => maskStatus e.status
  | none => 0xF8#8

/-- A read of `BUSDATA`: the byte of the pending receive event; at any other time a free value (`30_encoding.md`
R109, log 17). -/
def State.readBusData (s : State) : Byte :=
  match s.eng.evt with
  | some ⟨_, some d⟩ => d
  | _ => Config.freeBusData s.spos

/-- No transaction is in flight (`70_reset_and_hazards.md` R335: a run that ends here is complete). -/
def State.runComplete (s : State) : Bool :=
  decide (s.blocked = .none) && !s.bus.busy && decide (s.bus.link = .idle) && !s.busPending

end Sys2Proof.Machine
end

