-- ==== Sys2Proof/Machine/Ops.lean ====
section
/-!
DEFINITION. The named operations over the state that the meanings share: sequencing, the transaction buffer, the
accessors of numbered fields, the actions handed to the byte engine, and the delivery of interrupts, which takes the
place of taking an exception on this hardware (`00_scope.md` R13, `60_exceptions.md` R277 to R279).
-/

namespace Sys2Proof.Machine

/-! Sequencing and guards. -/

/-- Run `k` on the next state; a stop stays a stop. -/
def andThen (o : Out) (k : State → Out) : Out :=
  match o with
  | .next s => k s
  | .fault f => .fault f
  | .refused r => .refused r

/-- A host operation: refused while the host is inside a blocking bus call (`10_state.md` R33, F9). -/
def hostOp (s : State) (k : Out) : Out :=
  if s.blocked = .none then k else .refused .hostBlocked

/-- Return a value to the host (`30_encoding.md` R114). -/
def State.giveResult (s : State) (r : HostResult) : State := { s with results := s.results ++ [r] }

/-- The configuration check of F1 (`00_scope.md` R9). -/
def configOk (c : Config) : Bool := decide c.Valid

/-- The well-formedness check of `30_encoding.md` R98. -/
def operandsOk (c : Config) (i : Instr) : Bool := i.wellFormed c

/-! The transaction buffer (`20_memory.md` R60, R68, R85). -/

/-- The byte at an index, none where it is unspecified. -/
def Memory.read? (m : Memory) (a : Nat) : Option Byte := (m.find? fun c => c.1 == a).map (·.2)

/-- Write the byte at an index, keeping the indices rising. -/
def Memory.write (m : Memory) (a : Nat) (b : Byte) : Memory :=
  match m with
  | [] => [(a, b)]
  | c :: rest =>
    if a < c.1 then (a, b) :: c :: rest
    else if a = c.1 then (a, b) :: rest
    else c :: Memory.write rest a b

/-- Write bytes at ascending indices from `a` on (BUS.SEND's payload, `40_bus_driver.md` R132). -/
def Memory.writeList (m : Memory) (a : Nat) (bs : List Byte) : Memory :=
  match bs with
  | [] => m
  | b :: rest => Memory.writeList (Memory.write m a b) (a + 1) rest

/-- Every byte unspecified (`20_memory.md` R74, `40_bus_driver.md` R133). -/
def Memory.poisoned : Memory := []

/-- `MemRead(a, 1)` (`00_scope.md` R11): an index outside the buffer is refused (F11), and so is a read of an
unspecified byte (F18). -/
def bufRead (m : Memory) (a : Nat) : Except Refusal Byte :=
  if a < Config.bufCap then
    match m.read? a with
    | some b => .ok b
    | none => .error (.unspecifiedField .buf)
  else .error .bufIndex

/-- `MemWrite(a, 1, b)` (`00_scope.md` R11): an index outside the buffer is refused (F11). -/
def bufWrite (m : Memory) (a : Nat) (b : Byte) : Except Refusal Memory :=
  if a < Config.bufCap then .ok (m.write a b) else .error .bufIndex

/-- `buf[a], ..., buf[a + n - 1]`, ascending (BUS.RET, `40_bus_driver.md` R135). -/
def bufReadList (m : Memory) (a : Nat) : Nat → Except Refusal (List Byte)
  | 0 => .ok []
  | n + 1 =>
    match bufRead m a with
    | .error r => .error r
    | .ok b =>
      match bufReadList m (a + 1) n with
      | .error r => .error r
      | .ok bs => .ok (b :: bs)

/-! Accessors of the numbered fields. -/

/-- The fields of a brushed motor. -/
def State.motor (s : State) : MotorId → Motor
  | .m0 => s.mot0
  | .m1 => s.mot1

/-- Replace the fields of a brushed motor. -/
def State.setMotor (s : State) (m : MotorId) (v : Motor) : State :=
  match m with
  | .m0 => { s with mot0 := v }
  | .m1 => { s with mot1 := v }

/-- The fields of a channel. -/
def Decoder.chan (d : Decoder) : ChanId → Chan
  | .c0 => d.c0
  | .c1 => d.c1
  | .c2 => d.c2
  | .c3 => d.c3
  | .c4 => d.c4

/-- `tcnt[m]` (`10_state.md` R44). -/
def Timers.tcnt (t : Timers) : MotorId → Word16
  | .m0 => t.tcnt0
  | .m1 => t.tcnt1

/-- Set `tcnt[m]`. -/
def Timers.setTcnt (t : Timers) (m : MotorId) (v : Word16) : Timers :=
  match m with
  | .m0 => { t with tcnt0 := v }
  | .m1 => { t with tcnt1 := v }

/-- `irqen[s]` (`10_state.md` R52). -/
def Irq.en (q : Irq) : Source → Bool
  | .bus => q.enBus
  | .sampler => q.enSampler
  | .brushed0 => q.enBrushed0
  | .brushed1 => q.enBrushed1
  | .esc => q.enEsc
  | .display => q.enDisplay

/-- Set `irqen[s]`. -/
def Irq.setEn (q : Irq) (src : Source) (v : Bool) : Irq :=
  match src with
  | .bus => { q with enBus := v }
  | .sampler => { q with enSampler := v }
  | .brushed0 => { q with enBrushed0 := v }
  | .brushed1 => { q with enBrushed1 := v }
  | .esc => { q with enEsc := v }
  | .display => { q with enDisplay := v }

/-- `irqpend[s]` of a timer source: the due handler operations, in the order they fell due (`10_state.md` R52). -/
def Irq.pend (q : Irq) : Source → List TimerOp
  | .brushed0 => q.pendBrushed0
  | .brushed1 => q.pendBrushed1
  | .esc => q.pendEsc
  | .bus => []
  | .sampler => []
  | .display => []

/-- Set `irqpend[s]` of a timer source. -/
def Irq.setPend (q : Irq) (src : Source) (l : List TimerOp) : Irq :=
  match src with
  | .brushed0 => { q with pendBrushed0 := l }
  | .brushed1 => { q with pendBrushed1 := l }
  | .esc => { q with pendEsc := l }
  | .bus => q
  | .sampler => q
  | .display => q

/-- Append a due operation to `irqpend[s]` unless it is already there (`60_exceptions.md` R278). -/
def Irq.hold (q : Irq) (src : Source) (op : TimerOp) : Irq :=
  if op ∈ q.pend src then q else q.setPend src (q.pend src ++ [op])

/-! Delivery of interrupts. -/

/-- An event of source `src` (`60_exceptions.md` R277, R278): its handler runs at once, as part of this step, while
the source is enabled; otherwise the event is held. Nothing is saved and no mode changes (R279). -/
def deliver (src : Source) (run hold : State → Out) (s : State) : Out :=
  if s.irq.en src then run s else hold s

/-! Actions handed to the byte engine (`40_bus_driver.md` R125). -/

/-- The five actions. -/
inductive Action where
  | start
  | tx (b : Byte)
  | rxArm (ack : Bool)
  | stop
  | rearm
deriving DecidableEq, Repr

/-- The request of an action; `Rearm` leaves `eng.req` as it is (R125). -/
def Action.request (a : Action) (old : EngReq) : EngReq :=
  match a with
  | .start => .start
  | .tx b => .tx b
  | .rxArm k => .rx k
  | .stop => .stop
  | .rearm => old

/-- The `BUSCTL` value of an action (`30_encoding.md` R110); what each of its bits does when written is
`State.writeBusCtl`. -/
def Action.ctl (a : Action) (ackarm : Bool) : Byte :=
  match a with
  | .start => 0xA5#8
  | .tx _ => 0x85#8
  | .rxArm k => if k then 0xC5#8 else 0x85#8
  | .stop => 0x95#8
  | .rearm => if ackarm then 0xC5#8 else 0x85#8

/-- The `BUSDATA` value after an action (`30_encoding.md` R110): written where a byte is sent. -/
def Action.data (a : Action) (old : Byte) : Byte :=
  match a with
  | .tx b => b
  | .start => old
  | .rxArm _ => old
  | .stop => old
  | .rearm => old

/-- `act(A)` (`40_bus_driver.md` R125): set `eng.req` to the request of `A` and clear the pending event; at the
register face, write `BUSDATA` and `BUSCTL` (`30_encoding.md` R110). `registerAct` is the action as its register
writes; where they differ, the action is the rule (log 31). -/
def act (a : Action) (s : State) : State :=
  { s with eng := { s.eng with
      req := a.request s.eng.req
      evt := none
      busctl := a.ctl s.bus.ackarm
      busdata := a.data s.eng.busdata } }

/-- The common success step `complete()` (`40_bus_driver.md` R141). -/
def complete (s : State) : State :=
  let s := act .stop s
  { s with bus := { s.bus with outcome := .acked, busy := false, link := .stopPending } }

/-- The common abort step `abort()` (`40_bus_driver.md` R137): every byte of `buf`, and `cur`, become unspecified. -/
def abort (s : State) : State :=
  let s := act .stop s
  { s with bus := { s.bus with
      outcome := .nackAbort
      busy := false
      link := .stopPending
      buf := Memory.poisoned
      curSet := false } }

/-! Output pins (`10_state.md` R45). -/

/-- Drive both pins of a motor in one step (`42_motor_driver.md` R199). -/
def driveMotor (m : MotorId) (a b : Bool) (s : State) : State :=
  let s := s.setMotor m { s.motor m with pinA := a, pinB := b, pinsSet := true }
  { s with pinlog := s.pinlog ++ [.motor m a b] }

/-- Drive the ESC pin. -/
def driveEsc (v : Bool) (s : State) : State :=
  { s with esc := { s.esc with pinesc := v, pinescSet := true }, pinlog := s.pinlog ++ [.esc v] }

end Sys2Proof.Machine
end

