-- ==== Sys2Proof/Machine/Orientation.lean ====
section
/-!
DEFINITION. The OrientationFilter (`43_orientation_filter.md`): ORI.UPDATE and ORI.SIGN.
-/

namespace Sys2Proof.Machine

/-- The stability counter after an update with instantaneous sign `r` (R233). -/
def Ori.nextCnt (c : Config) (o : Ori) (r : Sign) : Nat :=
  if r = o.oriraw then min (o.oricnt + 1) (c.oriTimeout - 1) else 0

/-- The filter after an update with the sample words `x`, `y`, `z` (R233). -/
def Ori.update (c : Config) (o : Ori) (x y z : Word16) : Ori :=
  let d := downnessOf c x.toInt y.toInt z.toInt
  let r := rawSign d
  let n := o.nextCnt c r
  { sampleX := x
    sampleY := y
    sampleZ := z
    sampleSet := true
    downness := d
    downnessSet := true
    oriraw := r
    orifilt := if c.oriTimeout - 1 ≤ n then r else o.orifilt
    oricnt := n }

/-- ORI.UPDATE (R233): the six output-register bytes in bus order (`20_memory.md` R66). -/
def execOriUpdate (xl xh yl yh zl zh : Byte) (s : State) : Out :=
  hostOp s (.next { s with ori := s.ori.update s.cfg (wordOf xl xh) (wordOf yl yh) (wordOf zl zh) })

/-- ORI.SIGN (R237). -/
def execOriSign (s : State) : Out := hostOp s (.next (s.giveResult (.sign s.ori.orifilt)))

end Sys2Proof.Machine
end

