-- ==== Sys2Proof/Machine/Bus.lean ====
section
/-!
DEFINITION. The BusDriver (`40_bus_driver.md`): the host commands, the byte engine's part and the bus handler's part
of every status event, and EV.STOPDONE.
-/

namespace Sys2Proof.Machine

/-! Host commands. -/

/-- BUS.INIT (R130). -/
def execBusInit (targetHz : BitVec 32) (s : State) : Out :=
  if s.blocked ≠ .none ∨ s.bus.busy = true then .refused .initDuringTransaction
  else
    match busDivisor s.cfg.cpuHz targetHz.toNat with
    | .error r => .refused r
    | .ok d =>
      .next { s with
        bus := { s.bus with
          busdiv := d, busdivSet := true
          busy := false, link := .idle, outcome := .pending, dir := .send
          len := 0#5, cur := 0#5, curSet := true, ackarm := false }
        eng := { s.eng with req := .none, evt := none, phase := .afterStart, owned := false }
        irq := s.irq.setEn .bus true }

/-- The preconditions common to BUS.SEND and BUS.RECV (R131), for a transfer of `n` bytes. -/
def callEntry (n : Nat) (s : State) (k : Out) : Out :=
  if s.blocked ≠ .none then .refused .hostBlocked
  else if s.bus.busy = true then .refused .busBusy
  else if s.bus.link ≠ .idle then .refused .linkNotIdle
  else if s.bus.busdivSet = false then .refused (.unspecifiedField .busdiv)
  else if 1 ≤ n ∧ n ≤ Config.bufCap then k
  else .refused .badCount

/-- The entry of a call: direction, buffer, length, cursor, `outcome`, `busy`, then `act(Start)` and the block
(R132, R133). -/
def beginTransfer (d : Dir) (buf : Memory) (n : Nat) (b : Blocked) (s : State) : State :=
  let s := { s with bus := { s.bus with
    dir := d, buf := buf, len := BitVec.ofNat 5 n, cur := 0#5, curSet := true
    outcome := .pending, busy := true } }
  let s := act .start s
  { s with blocked := b }

/-- BUS.SEND (R132). -/
def execBusSend (payload : List Byte) (s : State) : Out :=
  callEntry payload.length s
    (.next (beginTransfer .send (s.bus.buf.writeList 0 payload) payload.length .inSend s))

/-- BUS.RECV (R133). -/
def execBusRecv (n : Byte) (s : State) : Out :=
  callEntry n.toNat s (.next (beginTransfer .receive Memory.poisoned n.toNat .inRecv s))

/-- BUS.RET (R135). -/
def execBusRet (s : State) : Out :=
  if s.bus.busy = true ∨ s.bus.link ≠ .idle then .refused .retNotEnabled
  else
    match s.blocked with
    | .none => .refused .retNotEnabled
    | .inSend => .next ({ s with blocked := .none }.giveResult (.sent (decide (s.bus.outcome = TxOutcome.acked))))
    | .inRecv =>
      if s.bus.outcome = .acked then
        match bufReadList s.bus.buf 0 s.bus.len.toNat with
        | .error r => .refused r
        | .ok bs => .next ({ s with blocked := .none }.giveResult (.received (some bs)))
      else .next ({ s with blocked := .none }.giveResult (.received none))

/-! The engine part (R150). -/

/-- What the byte engine answers when a script says that it raises event `c`, with data byte `d` for a receive: the
wire symbol, the phase and the ownership after it; none if `eng.req`, `eng.phase` and `eng.owned` cannot give that
event (R150 and the contexts of R136 to R149). EV.RSTART is taken with either ownership (R138, log 9). -/
def engineAnswer (c : BusCode) (d : Option Byte) (e : Engine) : Option (WireSym × EngPhase × Bool) :=
  match c, e.req, e.phase with
  | .start, .start, _ => if e.owned then none else some (.s, .afterStart, true)
  | .rstart, .start, _ => some (.sr, .afterStart, true)
  | .slawAck, .tx b, .afterStart => if b.getLsbD 0 then none else some (.byte b false, .mt, e.owned)
  | .slawNack, .tx b, .afterStart => if b.getLsbD 0 then none else some (.byte b true, .mt, e.owned)
  | .txdAck, .tx b, .mt => some (.byte b false, .mt, e.owned)
  | .txdNack, .tx b, .mt => some (.byte b true, .mt, e.owned)
  | .slarAck, .tx b, .afterStart => if b.getLsbD 0 then some (.byte b false, .mr, e.owned) else none
  | .slarNack, .tx b, .afterStart => if b.getLsbD 0 then some (.byte b true, .mr, e.owned) else none
  | .rxdAck, .rx true, .mr => d.map fun v => (.byte v false, .mr, e.owned)
  | .rxdNack, .rx false, .mr => d.map fun v => (.byte v true, .mr, e.owned)
  | _, _, _ => none

/-- The block's context of a listed event (R136 to R149). -/
def busContext (c : BusCode) (b : Bus) : Bool :=
  b.busy &&
  match c with
  | .start => decide (b.link = .idle ∧ b.outcome = .pending)
  | .rstart => decide (b.link = .idle ∧ b.outcome = .pending)
  | .slawAck => decide (b.dir = .send ∧ b.link = .addressPhase)
  | .slawNack => decide (b.dir = .send ∧ b.link = .addressPhase)
  | .txdAck => decide (b.dir = .send ∧ b.link = .transmitPhase)
  | .txdNack => decide (b.dir = .send ∧ b.link = .transmitPhase)
  | .slarAck => decide (b.dir = .receive ∧ b.link = .addressPhase)
  | .slarNack => decide (b.dir = .receive ∧ b.link = .addressPhase)
  | .rxdAck => decide (b.dir = .receive ∧ b.link = .receivePhaseMulti)
  | .rxdNack => decide (b.dir = .receive ∧ b.link = .receivePhaseLast)

/-! The handler parts. -/

/-- The handler consumes the pending event: `eng.evt <- None`. -/
def consumeEvent (s : State) : State := { s with eng := { s.eng with evt := none } }

/-- Set `link`. -/
def setLink (l : LinkState) (s : State) : State := { s with bus := { s.bus with link := l } }

/-- The handler of a start or repeated start (R136, R138). -/
def handleStart (s : State) : Out :=
  .next (setLink .addressPhase (act (.tx (addrByte s.cfg s.bus.dir)) (consumeEvent s)))

/-- The handler of an acknowledged address or data byte in write mode (R139, R140): hand over the next byte, or
complete. -/
def handleSendAck (s : State) : Out :=
  let s := consumeEvent s
  if s.bus.curSet = false then .refused (.unspecifiedField .cur)
  else if s.bus.cur.toNat < s.bus.len.toNat then
    match bufRead s.bus.buf s.bus.cur.toNat with
    | .error r => .refused r
    | .ok b =>
      let s := act (.tx b) s
      .next { s with bus := { s.bus with cur := s.bus.cur + 1#5, link := .transmitPhase } }
  else .next (complete s)

/-- The handler of a not-acknowledge (R142, R143, R145). -/
def handleNack (s : State) : Out := .next (abort (consumeEvent s))

/-- Arm the receiver for the final byte: no acknowledge (R144, R146). -/
def armLast (s : State) : State :=
  setLink .receivePhaseLast (act (.rxArm false) { s with bus := { s.bus with ackarm := false } })

/-- The handler of an acknowledged address in read mode (R144). -/
def handleSlarAck (s : State) : Out :=
  let s := consumeEvent s
  if s.bus.curSet = false then .refused (.unspecifiedField .cur)
  else if s.bus.len.toNat = s.bus.cur.toNat + 1 then .next (armLast s)
  else .next (setLink .receivePhaseMulti (act (.rxArm true) { s with bus := { s.bus with ackarm := true } }))

/-- Store a received byte at the cursor and advance it (R146, R149). A receive event carries its data byte
(`10_state.md` R31): one without is none the engine raises (R152). -/
def storeByte (d : Option Byte) (s : State) (k : State → Out) : Out :=
  match d with
  | none => .refused .outOfContract
  | some v =>
    if s.bus.curSet = false then .refused (.unspecifiedField .cur)
    else
      match bufWrite s.bus.buf s.bus.cur.toNat v with
      | .error r => .refused r
      | .ok m => k { s with bus := { s.bus with buf := m, cur := s.bus.cur + 1#5 } }

/-- The handler of a byte received with more remaining (R146). -/
def handleRxdAck (d : Option Byte) (s : State) : Out :=
  storeByte d (consumeEvent s) fun s =>
    if s.bus.len.toNat = s.bus.cur.toNat + 1 then .next (armLast s)
    else .next (act (.rxArm true) s)

/-- The handler of the final received byte (R149). -/
def handleRxdNack (d : Option Byte) (s : State) : Out :=
  storeByte d (consumeEvent s) fun s => .next (complete s)

/-- The handler of an unexpected status code (R151): the defensive no-op. -/
def handleOther (s : State) : Out := .next (act .rearm (consumeEvent s))

/-- An unexpected status code waits for its disabled source (`60_exceptions.md` R278): the engine carries out nothing
until it is served (R150), and its request stands over, so that no request is open while an event is pending
(R154 (i), log 10). -/
def holdOther (s : State) : Out := .next { s with eng := { s.eng with req := .none, standby := s.eng.req } }

/-- The request that stood over is open again: an unexpected status code leaves `eng.req` as it was (R151, log 10). -/
def resumeRequest (s : State) : State := { s with eng := { s.eng with req := s.eng.standby, standby := .none } }

/-- The handler part of a listed event. -/
def handleCode (c : BusCode) (d : Option Byte) (s : State) : Out :=
  match c with
  | .start => handleStart s
  | .rstart => handleStart s
  | .slawAck => handleSendAck s
  | .slawNack => handleNack s
  | .txdAck => handleSendAck s
  | .txdNack => handleNack s
  | .slarAck => handleSlarAck s
  | .slarNack => handleNack s
  | .rxdAck => handleRxdAck d s
  | .rxdNack => handleRxdNack d s

/-- The handler part of the pending event, run when source 0 is enabled again (`60_exceptions.md` R282). A listed
event that no longer is in its context is refused (R152, log 11). -/
def servePending (s : State) : Out :=
  match s.eng.evt with
  | none => .next s
  | some e =>
    match busCodeOf e.status with
    | none => handleOther (resumeRequest s)
    | some c => if busContext c s.bus then handleCode c e.data s else .refused .outOfContract

/-- A listed event (R127): outside its context it is refused (R152); else the engine part, then the handler part
while `irqen[0] = 1`, and otherwise the event stays in `eng.evt` (`60_exceptions.md` R278). The engine carries out a
request only while no event is pending (R150). -/
def busEvent (c : BusCode) (d : Option Byte) (s : State) : Out :=
  if busContext c s.bus && s.eng.evt.isNone then
    match engineAnswer c d s.eng with
    | none => .refused .outOfContract
    | some (sym, ph, own) =>
      deliver .bus (handleCode c d) .next { s with
        buslog := s.buslog ++ [sym]
        eng := { s.eng with req := .none, evt := some ⟨c.status, d⟩, phase := ph, owned := own } }
  else .refused .outOfContract

/-- EV.START (R136). -/
def execEvStart (s : State) : Out := busEvent .start none s

/-- EV.RSTART (R138). -/
def execEvRstart (s : State) : Out := busEvent .rstart none s

/-- EV.SLAW_ACK (R139). -/
def execEvSlawAck (s : State) : Out := busEvent .slawAck none s

/-- EV.SLAW_NACK (R142). -/
def execEvSlawNack (s : State) : Out := busEvent .slawNack none s

/-- EV.TXD_ACK (R140). -/
def execEvTxdAck (s : State) : Out := busEvent .txdAck none s

/-- EV.TXD_NACK (R143). -/
def execEvTxdNack (s : State) : Out := busEvent .txdNack none s

/-- EV.SLAR_ACK (R144). -/
def execEvSlarAck (s : State) : Out := busEvent .slarAck none s

/-- EV.SLAR_NACK (R145). -/
def execEvSlarNack (s : State) : Out := busEvent .slarNack none s

/-- EV.RXD_ACK (R146). -/
def execEvRxdAck (d : Byte) (s : State) : Out := busEvent .rxdAck (some d) s

/-- EV.RXD_NACK (R149). -/
def execEvRxdNack (d : Byte) (s : State) : Out := busEvent .rxdNack (some d) s

/-- EV.OTHER (R151). A listed code is no EV.OTHER (R103). While source 0 is disabled the event is held
(`60_exceptions.md` R278); a second one cannot occur then (log 10). -/
def execEvOther (status : Byte) (s : State) : Out :=
  match busCodeOf status with
  | some _ => .refused .illFormed
  | none =>
    if s.irq.en .bus = false ∧ s.eng.evt ≠ none then .refused .eventHeld
    else deliver .bus handleOther holdOther { s with eng := { s.eng with evt := some ⟨maskStatus status, none⟩ } }

/-- EV.STOPDONE (R147): the byte engine has put the stop on the wires. -/
def execEvStopdone (s : State) : Out :=
  if s.eng.req = .stop ∧ s.bus.link = .stopPending then
    .next { s with
      buslog := s.buslog ++ [.p]
      eng := { s.eng with owned := false, phase := .afterStart, req := .none }
      bus := { s.bus with link := .idle } }
  else .refused .outOfContract

end Sys2Proof.Machine
end

