-- ==== Sys2Proof/Machine/Motor.lean ====
section
/-!
DEFINITION. The MotorDriver (`42_motor_driver.md`): host commands, the handlers of the brushed-motor and ESC timers,
and the timers.
-/

namespace Sys2Proof.Machine

/-! Host commands. -/

/-- MOT.SETB (R191): clamp and store; one step, as a script has it (log 14). -/
def execMotSetb (m : MotorId) (power : Word16) (s : State) : Out :=
  hostOp s (.next (s.setMotor m { s.motor m with
    power := BitVec.ofInt 16 (clamp power.toInt (-255) 255), powerLoSet := true, powerHiSet := true }))

/-- MOT.SETE (R192). -/
def execMotSete (power : Byte) (s : State) : Out :=
  hostOp s (.next { s with esc := { s.esc with escpower := power, escpowerSet := true } })

/-- MOT.SHUT (R193). -/
def execMotShut (flag : Bool) (s : State) : Out :=
  hostOp s (.next { s with esc := { s.esc with escshut := flag, escshutSet := true } })

/-- MOT.SETBL (R197): `power[m][7:0] <- b`. -/
def execMotSetbl (m : MotorId) (b : Byte) (s : State) : Out :=
  hostOp s (.next (s.setMotor m { s.motor m with
    power := wordOf b (byteOf (s.motor m).power 1), powerLoSet := true }))

/-- MOT.SETBH (R198): `power[m][15:8] <- b`. -/
def execMotSetbh (m : MotorId) (b : Byte) (s : State) : Out :=
  hostOp s (.next (s.setMotor m { s.motor m with
    power := wordOf (byteOf (s.motor m).power 0) b, powerHiSet := true }))

/-- One motor's threshold recomputed (R196). -/
def Motor.recomp (c : Config) (m : Motor) : Motor :=
  { m with offthr := offThreshold c m.power, offthrSet := true }

/-- MOT.RECOMP (R196). -/
def execMotRecomp (s : State) : Out :=
  hostOp s
    (if s.mot0.powerSet = false then .refused (.unspecifiedField (.power .m0))
    else if s.mot1.powerSet = false then .refused (.unspecifiedField (.power .m1))
    else if s.esc.escpowerSet = false then .refused (.unspecifiedField .escpower)
    else .next { s with
      mot0 := s.mot0.recomp s.cfg
      mot1 := s.mot1.recomp s.cfg
      esc := { s.esc with escwidth := escWidth s.cfg s.esc.escpower, escwidthSet := true } })

/-! The handlers. -/

/-- The on body for one motor (R200): a live read of `power[m]`. -/
def onBody (m : MotorId) (s : State) : Out :=
  if (s.motor m).powerSet = false then .refused (.unspecifiedField (.power m))
  else if fullyOff s.cfg (s.motor m).power then .next s
  else if isPos (s.motor m).power then .next (driveMotor m true false s)
  else .next (driveMotor m false true s)

/-- The off body for one motor (R201). -/
def offBody (m : MotorId) (s : State) : Out :=
  if (s.motor m).powerSet = false then .refused (.unspecifiedField (.power m))
  else if fullyOn s.cfg (s.motor m).power then .next s
  else .next (driveMotor m true true s)

/-- The overflow body (R202): the on body for motor 0, then for motor 1. -/
def ovfBody (s : State) : Out := andThen (onBody .m0 s) (onBody .m1)

/-- The assert body (R205). -/
def assertBody (s : State) : Out :=
  if s.esc.escshutSet = false then .refused (.unspecifiedField .escshut)
  else if s.esc.escshut then .next s
  else .next (driveEsc true s)

/-- The deassert body (R206). -/
def deassertBody (s : State) : Out := .next (driveEsc false s)

/-- The body of a timer handler operation; MOT.ON exists only in variant A, MOT.OVF only in variant B (R98). -/
def runTimerOp (op : TimerOp) (s : State) : Out :=
  match op with
  | .motOn m => if s.cfg.motVariant = .a then onBody m s else .refused .illFormed
  | .motOff m => offBody m s
  | .motOvf => if s.cfg.motVariant = .b then ovfBody s else .refused .illFormed
  | .escAssert => assertBody s
  | .escDeassert => deassertBody s

/-- Run a list of held handler operations, first to last (`60_exceptions.md` R282). -/
def runTimerOps (ops : List TimerOp) (s : State) : Out :=
  match ops with
  | [] => .next s
  | op :: rest => andThen (runTimerOp op s) (runTimerOps rest)

/-- `due(E)` (R210): run the handler operation now, or append it to `irqpend` of its source
(`60_exceptions.md` R278). -/
def due (op : TimerOp) (s : State) : Out :=
  deliver (op.source s.cfg.motVariant) (runTimerOp op)
    (fun s => .next { s with irq := s.irq.hold (op.source s.cfg.motVariant) op }) s

/-- `due(E)` under a condition. -/
def dueIf (b : Bool) (op : TimerOp) (s : State) : Out := if b then due op s else .next s

/-- MOT.ON (R200), variant A only. -/
def execMotOn (m : MotorId) (s : State) : Out :=
  if s.cfg.motVariant = .a then due (.motOn m) s else .refused .illFormed

/-- MOT.OFF (R201). -/
def execMotOff (m : MotorId) (s : State) : Out := due (.motOff m) s

/-- MOT.OVF (R202), variant B only. -/
def execMotOvf (s : State) : Out :=
  if s.cfg.motVariant = .b then due .motOvf s else .refused .illFormed

/-- ESC.ASSERT (R205). -/
def execEscAssert (s : State) : Out := due .escAssert s

/-- ESC.DEASSERT (R206). -/
def execEscDeassert (s : State) : Out := due .escDeassert s

/-! The timers (R210). An unspecified threshold never matches. Coincident events run in the script's order: on or
overflow first, then MOT.OFF 0, then MOT.OFF 1 (R211, log 13). -/

/-- Does the count meet the off threshold of motor `m`? -/
def meetsOff (m : MotorId) (n : Nat) (s : State) : Bool :=
  (s.motor m).offthrSet && decide (n = (s.motor m).offthr.toNat)

/-- The next count of a counter of period `top`. -/
def nextCount (v : Word16) (top : Nat) : Nat := (v.toNat + 1) % top

/-- A tick of brushed timer `m` in variant A. -/
def tickBrushed (m : MotorId) (s : State) : Out :=
  let n := nextCount (s.tmr.tcnt m) s.cfg.motTopA
  let s := { s with tmr := s.tmr.setTcnt m (BitVec.ofNat 16 n) }
  andThen (dueIf (decide (n = 0)) (.motOn m) s) fun s =>
    dueIf (meetsOff m n s) (.motOff m) s

/-- A tick of the shared 8-bit timer of variant B. -/
def tickShared (s : State) : Out :=
  let n := nextCount s.tmr.tcnt0 Config.motTopB
  let s := { s with tmr := { s.tmr with tcnt0 := BitVec.ofNat 16 n } }
  andThen (dueIf (decide (n = 0)) .motOvf s) fun s =>
    andThen (dueIf (meetsOff .m0 n s) (.motOff .m0) s) fun s =>
      dueIf (meetsOff .m1 n s) (.motOff .m1) s

/-- A tick of the ESC timer. -/
def tickEsc (s : State) : Out :=
  let n := nextCount s.tmr.esccnt s.cfg.escFrame
  let s := { s with tmr := { s.tmr with esccnt := BitVec.ofNat 16 n } }
  andThen (dueIf (decide (n = 0)) .escAssert s) fun s =>
    dueIf (s.esc.escwidthSet && decide (n = s.esc.escwidth.toNat)) .escDeassert s

/-- TMR.TICK (R210); timer numbers of `30_encoding.md` R116, timer 1 only in variant A (R98). -/
def execTmrTick (t : BitVec 2) (s : State) : Out :=
  match t.toNat with
  | 0 => match s.cfg.motVariant with
    | .a => tickBrushed .m0 s
    | .b => tickShared s
  | 1 => match s.cfg.motVariant with
    | .a => tickBrushed .m1 s
    | .b => .refused .illFormed
  | 2 => tickEsc s
  | _ => .refused .illFormed

end Sys2Proof.Machine
end

