-- ==== Sys2Proof/Machine/Pulse.lean ====
section
/-!
DEFINITION. The PulseDecoder (`41_pulse_decoder.md`): PD.TICK, PD.READ, PD.READSHUT.
-/

namespace Sys2Proof.Machine

/-- `num[c]` after adding a level (R171). -/
def Chan.nextNum (c : Chan) (lv : Bool) : Nat := c.num.toNat + lv.toNat

/-- Does this tick end the channel's window (R171: the comparison is on the value after the increment)? -/
def Chan.windowEnds (c : Chan) (win : Nat) : Bool := decide (c.den.toNat + 1 = win)

/-- One tick of a channel whose window publishes `pub` of the raw count (R171). -/
def Chan.tick (c : Chan) (lv : Bool) (win : Nat) (pub : Nat → Byte) : Chan :=
  if c.windowEnds win then
    { num := 0#16, den := 0#16, duty := pub (c.nextNum lv), dutySet := true }
  else
    { c with num := BitVec.ofNat 16 (c.nextNum lv), den := BitVec.ofNat 16 (c.den.toNat + 1) }

/-- One sampler tick of the whole decoder (R171), with the levels the lines have when the handler runs
(`60_exceptions.md` R278). -/
def Decoder.tick (c : Config) (d : Decoder) : Decoder :=
  let short := fun (ch : Chan) (id : ChanId) =>
    ch.tick (levelOf d.lines id) c.pdWinShort fun n => dutyByte n c.pdWinShort
  { c0 := short d.c0 .c0
    c1 := short d.c1 .c1
    c2 := short d.c2 .c2
    c3 := short d.c3 .c3
    c4 := d.c4.tick (levelOf d.lines .c4) c.pdWinLong (throttleByte c)
    shutcond :=
      if d.c4.windowEnds c.pdWinLong then shutOf c (d.c4.nextNum (levelOf d.lines .c4)) else d.shutcond
    shutcondSet := if d.c4.windowEnds c.pdWinLong then true else d.shutcondSet
    lines := d.lines }

/-- The family exists only with `CMD_SOURCE = PulseDecoded` (`10_state.md` R38, F4). -/
def withDecoder (s : State) (k : Out) : Out :=
  if s.cfg.cmdSource = .pulseDecoded then k else .refused .noDecoder

/-- The sampler handler (R171). -/
def samplerTick (s : State) : Out := withDecoder s (.next { s with pd := s.pd.tick s.cfg })

/-- PD.TICK (R171): the word sets the line levels; the handler runs now or is held (`60_exceptions.md` R278). -/
def execPdTick (levels : BitVec 5) (s : State) : Out :=
  withDecoder s
    (deliver .sampler samplerTick (fun s => .next { s with irq := { s.irq with pendSampler := true } })
      { s with pd := { s.pd with lines := levels } })

/-- PD.READ (R176). -/
def execPdRead (channel : BitVec 3) (s : State) : Out :=
  hostOp s (withDecoder s
    (match chanOf channel with
    | none => .refused .illFormed
    | some c =>
      if (s.pd.chan c).dutySet then .next (s.giveResult (.duty (s.pd.chan c).duty))
      else .refused (.unspecifiedField (.duty c))))

/-- PD.READSHUT (R177). -/
def execPdReadshut (s : State) : Out :=
  hostOp s (withDecoder s
    (if s.pd.shutcondSet then .next (s.giveResult (.shut s.pd.shutcond))
    else .refused (.unspecifiedField .shutcond)))

end Sys2Proof.Machine
end

