-- ==== Sys2Proof/Machine/Scheduler.lean ====
section
/-!
DEFINITION. The tick counters (`44_scheduler.md` R251, R252) and interrupt control (`60_exceptions.md` R281, R282).
-/

namespace Sys2Proof.Machine

/-- A counter plus one, saturating at 65535 (R251). -/
def satInc (v : Word16) : Word16 := BitVec.ofNat 16 (min (v.toNat + 1) 65535)

/-- The display-tick handler (R251). -/
def displayTick (s : State) : Out := .next { s with tickn := satInc s.tickn, tickm := satInc s.tickm }

/-- SCH.DTICK (R251): run now or held (`60_exceptions.md` R278). -/
def execSchDtick (s : State) : Out :=
  deliver .display displayTick (fun s => .next { s with irq := { s.irq with pendDisplay := true } }) s

/-- The counter SCH.TAKE selects (R252). -/
def State.tick (s : State) : TickCtr → Word16
  | .n => s.tickn
  | .m => s.tickm

/-- Zero a counter (R252). -/
def State.zeroTick (s : State) : TickCtr → State
  | .n => { s with tickn := 0#16 }
  | .m => { s with tickm := 0#16 }

/-- The threshold of a counter (R252). -/
def tickThreshold (c : Config) : TickCtr → Nat
  | .n => c.schN
  | .m => c.schM

/-- SCH.TAKE (R252): refused unless source 5 is disabled (F16). -/
def execSchTake (k : TickCtr) (s : State) : Out :=
  hostOp s
    (if s.irq.en .display then .refused .unguardedTake
    else if tickThreshold s.cfg k ≤ (s.tick k).toNat then .next ((s.zeroTick k).giveResult (.taken true))
    else .next (s.giveResult (.taken false)))

/-- IRQ.DISABLE (R281). -/
def execIrqDisable (source : BitVec 3) (s : State) : Out :=
  hostOp s
    (match sourceOf s.cfg.motVariant source with
    | none => .refused .illFormed
    | some src => .next { s with irq := s.irq.setEn src false })

/-- Run what is pending of a source that has just been enabled (R282). -/
def serveSource (src : Source) (s : State) : Out :=
  match src with
  | .bus => servePending s
  | .sampler =>
    if s.irq.pendSampler then samplerTick { s with irq := { s.irq with pendSampler := false } } else .next s
  | .display =>
    if s.irq.pendDisplay then displayTick { s with irq := { s.irq with pendDisplay := false } } else .next s
  | .brushed0 =>
    andThen (runTimerOps (s.irq.pend .brushed0) s) fun s => .next { s with irq := s.irq.setPend .brushed0 [] }
  | .brushed1 =>
    andThen (runTimerOps (s.irq.pend .brushed1) s) fun s => .next { s with irq := s.irq.setPend .brushed1 [] }
  | .esc =>
    andThen (runTimerOps (s.irq.pend .esc) s) fun s => .next { s with irq := s.irq.setPend .esc [] }

/-- IRQ.ENABLE (R282). -/
def execIrqEnable (source : BitVec 3) (s : State) : Out :=
  hostOp s
    (match sourceOf s.cfg.motVariant source with
    | none => .refused .illFormed
    | some src => serveSource src { s with irq := s.irq.setEn src true })

end Sys2Proof.Machine
end

