-- ==== Sys2Proof/Machine/Dispatch.lean ====
section
/-!
DEFINITION. The dispatch: one arm per operation of `30_encoding.md` R96, each a direct call of its meaning.
-/

namespace Sys2Proof.Machine

/-- The effect of one operation on the state. -/
def exec (i : Instr) (s : State) : Host.Outcome State Fault Refusal :=
  match i with
  | .busInit targetHz => Sys2Proof.Machine.execBusInit targetHz s
  | .busSend payload => Sys2Proof.Machine.execBusSend payload s
  | .busRecv n => Sys2Proof.Machine.execBusRecv n s
  | .busRet => Sys2Proof.Machine.execBusRet s
  | .evStart => Sys2Proof.Machine.execEvStart s
  | .evRstart => Sys2Proof.Machine.execEvRstart s
  | .evSlawAck => Sys2Proof.Machine.execEvSlawAck s
  | .evSlawNack => Sys2Proof.Machine.execEvSlawNack s
  | .evTxdAck => Sys2Proof.Machine.execEvTxdAck s
  | .evTxdNack => Sys2Proof.Machine.execEvTxdNack s
  | .evSlarAck => Sys2Proof.Machine.execEvSlarAck s
  | .evSlarNack => Sys2Proof.Machine.execEvSlarNack s
  | .evRxdAck d => Sys2Proof.Machine.execEvRxdAck d s
  | .evRxdNack d => Sys2Proof.Machine.execEvRxdNack d s
  | .evOther status => Sys2Proof.Machine.execEvOther status s
  | .evStopdone => Sys2Proof.Machine.execEvStopdone s
  | .pdTick levels => Sys2Proof.Machine.execPdTick levels s
  | .pdRead channel => Sys2Proof.Machine.execPdRead channel s
  | .pdReadshut => Sys2Proof.Machine.execPdReadshut s
  | .motSetb m power => Sys2Proof.Machine.execMotSetb m power s
  | .motSete power => Sys2Proof.Machine.execMotSete power s
  | .motShut flag => Sys2Proof.Machine.execMotShut flag s
  | .motRecomp => Sys2Proof.Machine.execMotRecomp s
  | .motOn m => Sys2Proof.Machine.execMotOn m s
  | .motOff m => Sys2Proof.Machine.execMotOff m s
  | .motOvf => Sys2Proof.Machine.execMotOvf s
  | .escAssert => Sys2Proof.Machine.execEscAssert s
  | .escDeassert => Sys2Proof.Machine.execEscDeassert s
  | .tmrTick t => Sys2Proof.Machine.execTmrTick t s
  | .motSetbl m b => Sys2Proof.Machine.execMotSetbl m b s
  | .motSetbh m b => Sys2Proof.Machine.execMotSetbh m b s
  | .oriUpdate xl xh yl yh zl zh => Sys2Proof.Machine.execOriUpdate xl xh yl yh zl zh s
  | .oriSign => Sys2Proof.Machine.execOriSign s
  | .schDtick => Sys2Proof.Machine.execSchDtick s
  | .irqDisable source => Sys2Proof.Machine.execIrqDisable source s
  | .irqEnable source => Sys2Proof.Machine.execIrqEnable source s
  | .schTake k => Sys2Proof.Machine.execSchTake k s

end Sys2Proof.Machine
end

