-- ==== Sys2Proof/Machine/Fetch.lean ====
section
/-!
DEFINITION. Taking the next operation from the script (`00_scope.md` R4, `30_encoding.md` R91).
-/

namespace Sys2Proof.Machine

/-- The next operation of the script. -/
def fetch (s : State) : Decoded := decode s.script

/-- Move past the bytes of the operation taken. -/
def State.advance (s : State) (len : Nat) (rest : List Byte) : State :=
  { s with script := rest, spos := s.spos + len }

/-- Put bytes where the next operation is taken from, in place of as many of the bytes that stand there. -/
def State.loadBytes (s : State) (bytes : List Byte) : State :=
  { s with script := bytes ++ s.script.drop bytes.length }

end Sys2Proof.Machine
end

