-- ==== Sys2Proof/Machine/Step.lean ====
section
/-!
DEFINITION. One step of a run (`00_scope.md` R4, `70_reset_and_hazards.md` R335): take the next operation of the
script and perform it.
-/

namespace Sys2Proof.Machine

/-- One step: refuse a bad configuration (F1); take the next operation, refusing a reserved word by its position
(R97, F2) and an ill-formed operation (R98, F3); perform it in the state that has moved past it. -/
def step (s : State) : Host.Outcome State Fault Refusal :=
  if configOk s.cfg then
    match fetch s with
    | .ended => .fault (.scriptEnded s.runComplete)
    | .truncated => .refused (.truncated s.spos)
    | .reserved w => .refused (.reservedWord s.spos w)
    | .instr i len rest => if operandsOk s.cfg i then exec i (s.advance len rest) else .refused .illFormed
  else .refused .badConfig

/-- The state with one instruction, given as the opcode table numbers its bits, placed where `step` takes its next
operation. It stands for the load of a script from outside the machine (log 4). -/
def State.withFetchWord (s : State) (nbits w : Nat) : State := s.loadBytes (tableBytes nbits w)

end Sys2Proof.Machine
end

