-- ==== Sys2Proof/Machine/Line.lean ====
section
/-!
DEFINITION. The line level of the bus (`40_bus_driver.md` section 7, R160 to R168): what the wire log puts on SCL and
SDA. Nothing at the event level reads it (R168).
-/

namespace Sys2Proof.Machine

/-- One sample of the two lines, one per half period (R162); true is 1, released or driven high. -/
structure LineSample where
  scl : Bool
  sda : Bool
deriving DecidableEq, Repr

/-- One SCL period in CPU clocks (R160). -/
def sclPeriod (busdiv : Byte) : Nat := 16 + 2 * busdiv.toNat

/-- Half an SCL period in CPU clocks: the duration of one sample (R160). -/
def halfPeriod (busdiv : Byte) : Nat := 8 + busdiv.toNat

/-- Both lines released: the idle bus (R161, R162). -/
def idleSample : LineSample := ⟨true, true⟩

/-- SCL held low until the next action is carried out (R162, R165). -/
def holdSample : LineSample := ⟨false, true⟩

/-- A bit: SDA set while SCL is low, held while SCL is high (R162). -/
def bitSamples (v : Bool) : List LineSample := [⟨false, v⟩, ⟨true, v⟩]

/-- The bits of a byte, most significant first (`20_memory.md` R67). -/
def byteBits (b : Byte) : List Bool :=
  [b.getLsbD 7, b.getLsbD 6, b.getLsbD 5, b.getLsbD 4, b.getLsbD 3, b.getLsbD 2, b.getLsbD 1, b.getLsbD 0]

/-- The sample sequence of a symbol (R162). -/
def WireSym.samples : WireSym → List LineSample
  | .s => [⟨true, true⟩, ⟨true, false⟩, ⟨false, false⟩]
  | .sr => [⟨false, true⟩, ⟨true, true⟩, ⟨true, false⟩, ⟨false, false⟩]
  | .byte b k => (byteBits b ++ [k]).flatMap bitSamples
  | .p => [⟨false, false⟩, ⟨true, false⟩, ⟨true, true⟩]

/-! Who drives the lines (R161, R164). -/

/-- The two devices on the bus: there is one master and one peripheral (R161, `00_scope.md` R6). -/
inductive BusDevice where
  | master
  | peripheral
deriving DecidableEq, Repr

/-- The level of an open-drain line pulled high: 1 unless some device drives it low (R161). -/
def openDrain (drivesLow : List Bool) : Bool := !drivesLow.any id

/-- What the devices do in one half period: which of them drive a line low. The master alone drives SCL: the peripheral
does not stretch the clock and there is no second master (R161, R167). -/
structure LineDrive where
  sclMasterLow : Bool
  sdaMasterLow : Bool
  sdaPeripheralLow : Bool
deriving DecidableEq, Repr

/-- The levels the two lines take (R161). -/
def LineDrive.sample (d : LineDrive) : LineSample :=
  ⟨openDrain [d.sclMasterLow], openDrain [d.sdaMasterLow, d.sdaPeripheralLow]⟩

/-- A half period with SCL at `scl`, in which `who` puts SDA at `v` and the other device releases it. -/
def driveHalf (who : BusDevice) (scl v : Bool) : LineDrive :=
  ⟨!scl, decide (who = .master) && !v, decide (who = .peripheral) && !v⟩

/-- Whether the master sends a byte (`ReqTx`) or takes one (`ReqRx`) (R164). -/
inductive ByteWay where
  | transmitted
  | received
deriving DecidableEq, Repr

/-- The way of the byte a request puts on the wires (R164, R150). -/
def EngReq.byteWay : EngReq → Option ByteWay
  | .tx _ => some .transmitted
  | .rx _ => some .received
  | .none => Option.none
  | .start => Option.none
  | .stop => Option.none

/-- Who drives SDA in the eight bits of a byte (R161). -/
def ByteWay.dataDriver : ByteWay → BusDevice
  | .transmitted => .master
  | .received => .peripheral

/-- Who drives SDA in the acknowledge bit of a byte: the device that does not drive its data bits (R161, R164). -/
def ByteWay.ackDriver : ByteWay → BusDevice
  | .transmitted => .peripheral
  | .received => .master

/-- A bit driven by `who` (R162). -/
def driveBit (who : BusDevice) (v : Bool) : List LineDrive := [driveHalf who false v, driveHalf who true v]

/-- What the devices do during a symbol; `way` matters for a byte only. The master drives SDA during the start and stop
conditions (R161). -/
def WireSym.drives (way : ByteWay) : WireSym → List LineDrive
  | .s => [driveHalf .master true true, driveHalf .master true false, driveHalf .master false false]
  | .sr =>
    [driveHalf .master false true, driveHalf .master true true, driveHalf .master true false,
      driveHalf .master false false]
  | .byte b k => (byteBits b).flatMap (driveBit way.dataDriver) ++ driveBit way.ackDriver k
  | .p => [driveHalf .master false false, driveHalf .master true false, driveHalf .master true true]

/-- Nobody drives a line: the idle bus, both lines 1 (R161). -/
def idleDrive : LineDrive := ⟨false, false, false⟩

/-- The master holds SCL low until its next action (R165). -/
def holdDrive : LineDrive := ⟨true, false, false⟩

/-- The line trace of a wire log, hold and idle samples left out (R168). -/
def lineTrace (log : List WireSym) : List LineSample := log.flatMap WireSym.samples

/-- The samples that may repeat after a symbol: idle after a stop, hold after anything else (R162, R165). -/
def WireSym.filler : WireSym → LineSample
  | .p => idleSample
  | .s => holdSample
  | .sr => holdSample
  | .byte _ _ => holdSample

/-- The line traces of a wire log: any number of idle samples first, then each symbol's samples and any number of
hold or idle samples after it (R168). -/
inductive IsLineTrace : List WireSym → List LineSample → Prop where
  | start (n : Nat) : IsLineTrace [] (List.replicate n idleSample)
  | symbol (log : List WireSym) (tr : List LineSample) (x : WireSym) (n : Nat) :
      IsLineTrace log tr →
      IsLineTrace (log ++ [x]) (tr ++ x.samples ++ List.replicate n x.filler)

/-- The bus is idle when the log is empty or ends in a stop (R126). -/
def busIdle (log : List WireSym) : Bool :=
  match log.getLast? with
  | none => true
  | some .p => true
  | some .s => false
  | some .sr => false
  | some (.byte _ _) => false

/-- What a receiver reads: SDA on the samples with SCL = 1 (R163). -/
def sampledBits (tr : List LineSample) : List Bool := (tr.filter (·.scl)).map (·.sda)

/-- The changes of SDA between consecutive samples with SCL = 1 in both: the new level of each, false for a start
and true for a stop (R163). -/
def highEdges : List LineSample → List Bool
  | [] => []
  | [_] => []
  | x :: y :: rest =>
    if x.scl && y.scl && (x.sda != y.sda) then y.sda :: highEdges (y :: rest) else highEdges (y :: rest)

end Sys2Proof.Machine
end

