-- ==== Sys2Proof/Machine/Pseudo.lean ====
section
/-!
DEFINITION. The pseudo-operations (`30_encoding.md` R113) whose expansion depends on no result, and the reference
host's start-up (`44_scheduler.md` R255 to R263, `70_reset_and_hazards.md` R310), as the operations each expands to.
The values that an expansion of SCH.CMD reads (the sign, the duty bytes) are its arguments here; the host that reads
them itself is `Sys2Proof/Machine/Reference.lean` (log 29).
-/

namespace Sys2Proof.Machine

/-- Perform operations one after another. -/
def runOps (is : List Instr) (s : State) : Out :=
  match is with
  | [] => .next s
  | i :: rest => andThen (exec i s) (runOps rest)

/-- SEND, for a peripheral that acknowledges everything (R260). -/
def opsSend (p : List Byte) : List Instr :=
  [.busSend p, .evStart, .evSlawAck] ++ List.replicate p.length .evTxdAck ++ [.evStopdone, .busRet]

/-- A send whose address is not acknowledged (R260). -/
def opsSendRefused (p : List Byte) : List Instr :=
  [.busSend p, .evStart, .evSlawNack, .evStopdone, .busRet]

/-- RECV of the bytes the peripheral supplies, for a peripheral that acknowledges its address (R261): the bytes
before the last one, and the last one. -/
def opsRecv (d : List Byte) (last : Byte) : List Instr :=
  [.busRecv (BitVec.ofNat 8 (d.length + 1)), .evStart, .evSlarAck] ++ d.map .evRxdAck ++
    [.evRxdNack last, .evStopdone, .busRet]

/-- ACC.WRITE (R258). -/
def opsAccWrite (reg val : Byte) : List Instr := opsSend [reg, val]

/-- ACC.READ6 (R259). -/
def opsAccRead6 (c : Config) (d0 d1 d2 d3 d4 d5 : Byte) : List Instr :=
  opsSend [c.accRegOut] ++ opsRecv [d0, d1, d2, d3, d4] d5

/-- The interrupt source that guards `power[m]` (`20_memory.md` R71). -/
def guardSource (v : MotVariant) (m : MotorId) : BitVec 3 :=
  match m, v with
  | .m0, _ => 2#3
  | .m1, .a => 3#3
  | .m1, .b => 2#3

/-- MOT.SETBG (R257). -/
def opsSetbg (v : MotVariant) (m : MotorId) (p : Int) : List Instr :=
  [.irqDisable (guardSource v m), .motSetb m (BitVec.ofInt 16 (clamp p (-255) 255)),
    .irqEnable (guardSource v m)]

/-- A brushed command combined with the filtered sign (R255, decision D25). -/
def signedCommand (s : Sign) (raw : Int) : Int := if s = .neg then -raw else raw

/-- The three-level throttle quantiser (R255, R264). -/
def quantise (c : Config) (t : Byte) : Byte :=
  if t.toNat < c.escQLo then c.escLvl0 else if t.toNat < c.escQHi then c.escLvl1 else c.escLvl2

/-- SCH.CMD with `CMD_SOURCE = PulseDecoded` (R255), given what its reads return: the sign, the five duty bytes and
the shutdown condition. -/
def opsCmdDecoded (c : Config) (sg : Sign) (d0 d1 d2 d3 t : Byte) (shut : Bool) : List Instr :=
  [.oriSign, .pdRead 0#3, .pdRead 1#3] ++
    opsSetbg c.motVariant .m0 (signedCommand sg ((d0.toNat : Int) - d1.toNat)) ++
    [.pdRead 2#3, .pdRead 3#3] ++
    opsSetbg c.motVariant .m1 (signedCommand sg ((d2.toNat : Int) - d3.toNat)) ++
    [.pdRead 4#3, .motSete (quantise c t), .pdReadshut, .motShut shut, .motRecomp]

/-- The operand of MOT.SETE for `FIXED_ESC`: a wider argument is clamped to 0..255 (`42_motor_driver.md` R192, log 27). -/
def fixedThrottle (c : Config) : Byte := BitVec.ofInt 8 (clamp c.fixedEsc 0 255)

/-- SCH.CMD with `CMD_SOURCE = FixedProfile` (R263). -/
def opsCmdFixed (c : Config) (sg : Sign) : List Instr :=
  [.oriSign] ++ opsSetbg c.motVariant .m0 (signedCommand sg c.fixedPwr0) ++
    opsSetbg c.motVariant .m1 (signedCommand sg c.fixedPwr1) ++
    [.motSete (fixedThrottle c), .motShut false, .motRecomp]

/-- SCH.CMD as the state's own values make it, when no handler runs in between. -/
def opsCmd (s : State) : List Instr :=
  match s.cfg.cmdSource with
  | .pulseDecoded =>
    opsCmdDecoded s.cfg s.ori.orifilt s.pd.c0.duty s.pd.c1.duty s.pd.c2.duty s.pd.c3.duty s.pd.c4.duty s.pd.shutcond
  | .fixedProfile => opsCmdFixed s.cfg s.ori.orifilt

/-- The reference host's start-up (`70_reset_and_hazards.md` R310, R311). -/
def opsStartUp (c : Config) : List Instr :=
  [.busInit c.busTargetHz, .motSetb .m0 0#16, .motSetb .m1 0#16, .motSete c.escLvl0, .motShut true,
    .motRecomp, .irqEnable 2#3] ++
  (match c.motVariant with | .a => [.irqEnable 3#3] | .b => []) ++ [.irqEnable 4#3] ++
  (match c.cmdSource with | .pulseDecoded => [.irqEnable 1#3] | .fixedProfile => []) ++ [.irqEnable 5#3] ++
  opsAccWrite c.accRegCtrl c.accCtrlVal

end Sys2Proof.Machine
end

