-- ==== Sys2Proof/Safety.lean ====
section
/-!
DEFINITION. The terms the claims use: which agent performs an operation, the hung host, runs without a refusal, and
the invariants the rules state.
-/

namespace Sys2Proof.Machine

/-- The host operations (`30_encoding.md` R94). -/
def isHostOp (i : Instr) : Bool :=
  match i with
  | .busInit _ | .busSend _ | .busRecv _ | .busRet => true
  | .evStart | .evRstart | .evSlawAck | .evSlawNack | .evTxdAck | .evTxdNack | .evSlarAck | .evSlarNack => false
  | .evRxdAck _ | .evRxdNack _ | .evOther _ | .evStopdone => false
  | .pdTick _ => false
  | .pdRead _ | .pdReadshut => true
  | .motSetb _ _ | .motSete _ | .motShut _ | .motRecomp | .motSetbl _ _ | .motSetbh _ _ => true
  | .motOn _ | .motOff _ | .motOvf | .escAssert | .escDeassert | .tmrTick _ => false
  | .oriUpdate _ _ _ _ _ _ | .oriSign => true
  | .schDtick => false
  | .irqDisable _ | .irqEnable _ | .schTake _ => true

/-- The operations of classes 0 and 1: the BusDriver's (`30_encoding.md` R94). -/
def isBusOp (i : Instr) : Bool :=
  match i with
  | .busInit _ | .busSend _ | .busRecv _ | .busRet => true
  | .evStart | .evRstart | .evSlawAck | .evSlawNack | .evTxdAck | .evTxdNack | .evSlarAck | .evSlarNack => true
  | .evRxdAck _ | .evRxdNack _ | .evOther _ | .evStopdone => true
  | .pdTick _ | .pdRead _ | .pdReadshut => false
  | .motSetb _ _ | .motSete _ | .motShut _ | .motRecomp | .motSetbl _ _ | .motSetbh _ _ => false
  | .motOn _ | .motOff _ | .motOvf | .escAssert | .escDeassert | .tmrTick _ => false
  | .oriUpdate _ _ _ _ _ _ | .oriSign => false
  | .schDtick | .irqDisable _ | .irqEnable _ | .schTake _ => false

/-- Does the operation perform a motor or ESC handler, at once or from the pending lists (`42_motor_driver.md`,
`60_exceptions.md` R282)? -/
def mayDrivePins (i : Instr) : Bool :=
  match i with
  | .busInit _ | .busSend _ | .busRecv _ | .busRet => false
  | .evStart | .evRstart | .evSlawAck | .evSlawNack | .evTxdAck | .evTxdNack | .evSlarAck | .evSlarNack => false
  | .evRxdAck _ | .evRxdNack _ | .evOther _ | .evStopdone => false
  | .pdTick _ | .pdRead _ | .pdReadshut => false
  | .motSetb _ _ | .motSete _ | .motShut _ | .motRecomp | .motSetbl _ _ | .motSetbh _ _ => false
  | .motOn _ | .motOff _ | .motOvf | .escAssert | .escDeassert | .tmrTick _ => true
  | .oriUpdate _ _ _ _ _ _ | .oriSign => false
  | .schDtick | .irqDisable _ | .schTake _ => false
  | .irqEnable _ => true

/-- The host waits in a call whose handler cannot run (`60_exceptions.md` R271, duty H12): it hangs. -/
abbrev Hung (s : State) : Prop := s.blocked ≠ .none ∧ s.bus.busy = true ∧ s.irq.enBus = false

/-- A run of `k` steps that meets no refusal and does not end: a safe run (`60_exceptions.md` R274). -/
abbrev RunsOn (k : Nat) (s t : State) : Prop := Sys2Proof.core.run k s = .next t

/-! The spec's classifications of words and events. -/

/-- The number of extension bytes of an operation word (`30_encoding.md` R92). -/
def extBytes (w : Word16) : Nat :=
  if w = 0x0000#16 then 4
  else if w &&& 0xFF00#16 = 0x0100#16 then (w &&& 0x00FF#16).toNat
  else if w &&& 0xFFF8#16 = 0x1050#16 ∨ w &&& 0xFFF8#16 = 0x1058#16 then 1
  else if w &&& 0xFFFE#16 = 0x3A00#16 ∨ w &&& 0xFFFE#16 = 0x3B00#16 then 1
  else if w &&& 0xFFFE#16 = 0x3000#16 then 2
  else if w = 0x4000#16 then 6
  else 0

/-- The reserved words (`30_encoding.md` R97), by the class and operation in the high byte and the must-be-zero bits
of the immediate. -/
def isReserved (lo hi : Byte) : Bool :=
  match hi.toNat with
  | 0x00 | 0x03 | 0x11 | 0x22 | 0x33 | 0x36 | 0x37 | 0x38 | 0x40 | 0x41 | 0x50 => decide (lo.toNat ≠ 0)
  | 0x01 | 0x02 | 0x10 | 0x31 => false
  | 0x20 => decide (32 ≤ lo.toNat)
  | 0x21 | 0x51 | 0x52 => decide (8 ≤ lo.toNat)
  | 0x30 | 0x32 | 0x34 | 0x35 | 0x3A | 0x3B | 0x53 => decide (2 ≤ lo.toNat)
  | 0x39 => decide (4 ≤ lo.toNat)
  | _ => true

/-- The ten listed events (`30_encoding.md` R101). -/
def isListedEvent (i : Instr) : Bool :=
  match i with
  | .evStart | .evRstart | .evSlawAck | .evSlawNack | .evTxdAck | .evTxdNack | .evSlarAck | .evSlarNack => true
  | .evRxdAck _ | .evRxdNack _ => true
  | .busInit _ | .busSend _ | .busRecv _ | .busRet | .evOther _ | .evStopdone => false
  | .pdTick _ | .pdRead _ | .pdReadshut => false
  | .motSetb _ _ | .motSete _ | .motShut _ | .motRecomp | .motSetbl _ _ | .motSetbh _ _ => false
  | .motOn _ | .motOff _ | .motOvf | .escAssert | .escDeassert | .tmrTick _ => false
  | .oriUpdate _ _ _ _ _ _ | .oriSign => false
  | .schDtick | .irqDisable _ | .irqEnable _ | .schTake _ => false

/-- The byte engine has been handed the address byte with read/write bit `rw` (`40_bus_driver.md` R139 to R145). -/
abbrev AddressOut (e : Engine) (rw : Bool) : Prop :=
  e.phase = .afterStart ∧ ∃ b, e.req = .tx b ∧ b.getLsbD 0 = rw

/-- The context of a listed event, as its rule gives it (`40_bus_driver.md` R136 to R149), with no event pending
(R150); EV.RSTART with either ownership (log 9). -/
def EventContext (i : Instr) (s : State) : Prop :=
  s.eng.evt = none ∧ s.bus.busy = true ∧
  match i with
  | .evStart => s.eng.req = .start ∧ s.eng.owned = false ∧ s.bus.link = .idle ∧ s.bus.outcome = .pending
  | .evRstart => s.eng.req = .start ∧ s.bus.link = .idle ∧ s.bus.outcome = .pending
  | .evSlawAck | .evSlawNack => AddressOut s.eng false ∧ s.bus.dir = .send ∧ s.bus.link = .addressPhase
  | .evTxdAck | .evTxdNack =>
    s.eng.phase = .mt ∧ (∃ b, s.eng.req = .tx b) ∧ s.bus.dir = .send ∧ s.bus.link = .transmitPhase
  | .evSlarAck | .evSlarNack => AddressOut s.eng true ∧ s.bus.dir = .receive ∧ s.bus.link = .addressPhase
  | .evRxdAck _ =>
    s.eng.phase = .mr ∧ s.eng.req = .rx true ∧ s.bus.dir = .receive ∧ s.bus.link = .receivePhaseMulti
  | .evRxdNack _ =>
    s.eng.phase = .mr ∧ s.eng.req = .rx false ∧ s.bus.dir = .receive ∧ s.bus.link = .receivePhaseLast
  | .busInit _ | .busSend _ | .busRecv _ | .busRet | .evOther _ | .evStopdone => True
  | .pdTick _ | .pdRead _ | .pdReadshut => True
  | .motSetb _ _ | .motSete _ | .motShut _ | .motRecomp | .motSetbl _ _ | .motSetbh _ _ => True
  | .motOn _ | .motOff _ | .motOvf | .escAssert | .escDeassert | .tmrTick _ => True
  | .oriUpdate _ _ _ _ _ _ | .oriSign => True
  | .schDtick | .irqDisable _ | .irqEnable _ | .schTake _ => True

/-- What a listed event leaves with the byte engine, and on the wires, in its engine part (`40_bus_driver.md` R136 to
R149, `30_encoding.md` R101): the wire symbol, the status event, the phase and the ownership, from the engine before
it. -/
def EnginePart (i : Instr) (e : Engine) (sym : WireSym) (ev : BusEvent) (ph : EngPhase) (own : Bool) : Prop :=
  match i with
  | .evStart => sym = .s ∧ ev = ⟨0x08#8, none⟩ ∧ ph = .afterStart ∧ own = true
  | .evRstart => sym = .sr ∧ ev = ⟨0x10#8, none⟩ ∧ ph = .afterStart ∧ own = true
  | .evSlawAck => ∃ b, e.req = .tx b ∧ sym = .byte b false ∧ ev = ⟨0x18#8, none⟩ ∧ ph = .mt ∧ own = e.owned
  | .evSlawNack => ∃ b, e.req = .tx b ∧ sym = .byte b true ∧ ev = ⟨0x20#8, none⟩ ∧ ph = .mt ∧ own = e.owned
  | .evTxdAck => ∃ b, e.req = .tx b ∧ sym = .byte b false ∧ ev = ⟨0x28#8, none⟩ ∧ ph = .mt ∧ own = e.owned
  | .evTxdNack => ∃ b, e.req = .tx b ∧ sym = .byte b true ∧ ev = ⟨0x30#8, none⟩ ∧ ph = .mt ∧ own = e.owned
  | .evSlarAck => ∃ b, e.req = .tx b ∧ sym = .byte b false ∧ ev = ⟨0x40#8, none⟩ ∧ ph = .mr ∧ own = e.owned
  | .evSlarNack => ∃ b, e.req = .tx b ∧ sym = .byte b true ∧ ev = ⟨0x48#8, none⟩ ∧ ph = .mr ∧ own = e.owned
  | .evRxdAck d => sym = .byte d false ∧ ev = ⟨0x50#8, some d⟩ ∧ ph = .mr ∧ own = e.owned
  | .evRxdNack d => sym = .byte d true ∧ ev = ⟨0x58#8, some d⟩ ∧ ph = .mr ∧ own = e.owned
  | .busInit _ | .busSend _ | .busRecv _ | .busRet | .evOther _ | .evStopdone => False
  | .pdTick _ | .pdRead _ | .pdReadshut => False
  | .motSetb _ _ | .motSete _ | .motShut _ | .motRecomp | .motSetbl _ _ | .motSetbh _ _ => False
  | .motOn _ | .motOff _ | .motOvf | .escAssert | .escDeassert | .tmrTick _ => False
  | .oriUpdate _ _ _ _ _ _ | .oriSign => False
  | .schDtick | .irqDisable _ | .irqEnable _ | .schTake _ => False

/-- The operation a timer handler operation is (`10_state.md` R52, `60_exceptions.md` R276). -/
def TimerOp.instr : TimerOp → Instr
  | .motOn m => .motOn m
  | .motOff m => .motOff m
  | .motOvf => .motOvf
  | .escAssert => .escAssert
  | .escDeassert => .escDeassert

/-- The rows of the transition table of `link` (`40_bus_driver.md` R153). -/
def LinkMove (i : Instr) (l l' : LinkState) : Prop :=
  match i with
  | .busInit _ => l' = .idle
  | .evStart | .evRstart => l = .idle ∧ l' = .addressPhase
  | .evSlawAck => l = .addressPhase ∧ l' = .transmitPhase
  | .evSlawNack | .evSlarNack => l = .addressPhase ∧ l' = .stopPending
  | .evTxdAck => l = .transmitPhase ∧ l' = .stopPending
  | .evTxdNack => l = .transmitPhase ∧ l' = .stopPending
  | .evSlarAck => l = .addressPhase ∧ (l' = .receivePhaseLast ∨ l' = .receivePhaseMulti)
  | .evRxdAck _ => l = .receivePhaseMulti ∧ l' = .receivePhaseLast
  | .evRxdNack _ => l = .receivePhaseLast ∧ l' = .stopPending
  | .evStopdone => l = .stopPending ∧ l' = .idle
  | .busSend _ | .busRecv _ | .busRet | .evOther _ => False
  | .pdTick _ | .pdRead _ | .pdReadshut => False
  | .motSetb _ _ | .motSete _ | .motShut _ | .motRecomp | .motSetbl _ _ | .motSetbh _ _ => False
  | .motOn _ | .motOff _ | .motOvf | .escAssert | .escDeassert | .tmrTick _ => False
  | .oriUpdate _ _ _ _ _ _ | .oriSign => False
  | .schDtick | .irqDisable _ | .irqEnable _ | .schTake _ => False

/-! Invariants. -/

/-- `40_bus_driver.md` R154 (a) to (f), with the meaning of the link states (`10_state.md` R25). -/
abbrev BusInv (s : State) : Prop :=
  (s.bus.len.toNat ≤ 16) ∧
  (s.bus.curSet = true → s.bus.cur.toNat ≤ s.bus.len.toNat) ∧
  (s.bus.busy = true →
    s.bus.outcome = .pending ∧ s.blocked ≠ .none ∧ s.bus.curSet = true ∧ 1 ≤ s.bus.len.toNat) ∧
  (s.bus.busy = false → s.blocked ≠ .none →
    s.bus.outcome ≠ .pending ∧ (s.bus.link = .stopPending ∨ s.bus.link = .idle)) ∧
  (s.blocked = .none → s.bus.link = .idle) ∧
  (s.bus.link = .stopPending → s.bus.busy = false) ∧
  (s.bus.busy = true → s.bus.link = .idle → s.bus.cur = 0#5) ∧
  (s.bus.link = .addressPhase → s.bus.busy = true ∧ s.bus.cur = 0#5) ∧
  (s.bus.link = .transmitPhase → s.bus.busy = true ∧ s.bus.dir = .send ∧ 1 ≤ s.bus.cur.toNat) ∧
  (s.bus.link = .receivePhaseMulti →
    s.bus.busy = true ∧ s.bus.dir = .receive ∧ s.bus.ackarm = true ∧ s.bus.cur.toNat + 2 ≤ s.bus.len.toNat) ∧
  (s.bus.link = .receivePhaseLast →
    s.bus.busy = true ∧ s.bus.dir = .receive ∧ s.bus.ackarm = false ∧ s.bus.cur.toNat + 1 = s.bus.len.toNat)

/-- The byte engine's phase and ownership, and the request `r`, are those its link state calls for (`10_state.md` R25,
`40_bus_driver.md` R150). -/
abbrev EngReady (s : State) (r : EngReq) : Prop :=
  match s.bus.link with
  | .idle => s.eng.owned = false ∧ (s.bus.busy = true → r = .start)
  | .addressPhase =>
    r = .tx (addrByte s.cfg s.bus.dir) ∧ s.eng.phase = .afterStart ∧ s.eng.owned = true
  | .transmitPhase => (∃ b, r = .tx b) ∧ s.eng.phase = .mt ∧ s.eng.owned = true
  | .receivePhaseMulti => r = .rx true ∧ s.eng.phase = .mr ∧ s.eng.owned = true
  | .receivePhaseLast => r = .rx false ∧ s.eng.phase = .mr ∧ s.eng.owned = true
  | .stopPending => r = .stop ∧ s.eng.owned = true

/-- At most one of the request and the event is there (`40_bus_driver.md` R154 (i)); while a listed event waits a
transaction is in flight; with no event the engine is ready with its request (R150), and while an unexpected status
code is held it is ready with the request that stands over (log 10). -/
abbrev EngInv (s : State) : Prop :=
  (∀ e, s.eng.evt = some e → s.eng.req = .none) ∧
  (∀ e, s.eng.evt = some e → busCodeOf e.status ≠ none → s.bus.busy = true) ∧
  (s.eng.evt = none → EngReady s s.eng.req) ∧
  (∀ e, s.eng.evt = some e → busCodeOf e.status = none → EngReady s s.eng.standby)

/-- The bytes a rule may still read are specified: the payload during a send, the received bytes during and after a
successful receive (`40_bus_driver.md` R154 (h)). -/
abbrev BufInv (s : State) : Prop :=
  (s.bus.busy = true → s.bus.dir = .send → ∀ a, a < s.bus.len.toNat → s.bus.buf.read? a ≠ none) ∧
  (s.bus.busy = true → s.bus.dir = .receive → ∀ a, a < s.bus.cur.toNat → s.bus.buf.read? a ≠ none) ∧
  (s.bus.busy = false → s.blocked = .inRecv → s.bus.outcome = .acked →
    ∀ a, a < s.bus.len.toNat → s.bus.buf.read? a ≠ none) ∧
  (s.blocked = .inSend → s.bus.dir = .send) ∧
  (s.blocked = .inRecv → s.bus.dir = .receive)

/-- `num <= den < WIN` (`41_pulse_decoder.md` R178). -/
abbrev Chan.ok (c : Chan) (win : Nat) : Prop := c.num.toNat ≤ c.den.toNat ∧ c.den.toNat < win

/-- `41_pulse_decoder.md` R178, every channel. -/
abbrev DecoderInv (s : State) : Prop :=
  s.pd.c0.ok s.cfg.pdWinShort ∧ s.pd.c1.ok s.cfg.pdWinShort ∧ s.pd.c2.ok s.cfg.pdWinShort ∧
  s.pd.c3.ok s.cfg.pdWinShort ∧ s.pd.c4.ok s.cfg.pdWinLong

/-- `43_orientation_filter.md` R235. -/
abbrev OriInv (s : State) : Prop :=
  s.ori.oricnt ≤ s.cfg.oriTimeout - 1 ∧
  (s.ori.oricnt = s.cfg.oriTimeout - 1 → s.ori.orifilt = s.ori.oriraw) ∧
  (s.ori.downnessSet = true → s.ori.oriraw = rawSign s.ori.downness)

/-- The counters' ranges (`10_state.md` R44) and the ranges of the latched thresholds (R42, R43). -/
abbrev TimerInv (s : State) : Prop :=
  (match s.cfg.motVariant with
    | .a => s.tmr.tcnt0.toNat < s.cfg.motTopA ∧ s.tmr.tcnt1.toNat < s.cfg.motTopA ∧
        (s.mot0.offthrSet = true → s.mot0.offthr.toNat ≤ s.cfg.motTopA) ∧
        (s.mot1.offthrSet = true → s.mot1.offthr.toNat ≤ s.cfg.motTopA)
    | .b => s.tmr.tcnt0.toNat < 256 ∧
        (s.mot0.offthrSet = true → s.mot0.offthr.toNat ≤ 255) ∧
        (s.mot1.offthrSet = true → s.mot1.offthr.toNat ≤ 255)) ∧
  s.tmr.esccnt.toNat < s.cfg.escFrame ∧
  (s.esc.escwidthSet = true → s.cfg.escWMin ≤ s.esc.escwidth.toNat ∧ s.esc.escwidth.toNat ≤ s.cfg.escWMax)

/-- The handler operations a source can hold in a variant (`60_exceptions.md` R276). -/
def heldOps (v : MotVariant) : Source → List TimerOp
  | .brushed0 => match v with
    | .a => [.motOn .m0, .motOff .m0]
    | .b => [.motOvf, .motOff .m0, .motOff .m1]
  | .brushed1 => match v with
    | .a => [.motOn .m1, .motOff .m1]
    | .b => []
  | .esc => [.escAssert, .escDeassert]
  | .bus => []
  | .sampler => []
  | .display => []

/-- The form of one pending list: no repeats, only operations of its source (`10_state.md` R52), and nothing pending
while the source is enabled (`60_exceptions.md` R277, R282). -/
abbrev PendListOk (s : State) (src : Source) : Prop :=
  (s.irq.pend src).Nodup ∧ (∀ op ∈ s.irq.pend src, op ∈ heldOps s.cfg.motVariant src) ∧
  (s.irq.en src = true → s.irq.pend src = [])

/-- Every source: an event is pending only while its source is disabled (`60_exceptions.md` R278). -/
abbrev PendInv (s : State) : Prop :=
  PendListOk s .brushed0 ∧ PendListOk s .brushed1 ∧ PendListOk s .esc ∧
  (s.irq.enSampler = true → s.irq.pendSampler = false) ∧
  (s.irq.enDisplay = true → s.irq.pendDisplay = false) ∧
  (s.irq.enBus = true → s.eng.evt = none)

/-- The transaction buffer keeps its canonical form (`20_memory.md` R60). -/
abbrev MemInv (s : State) : Prop := s.bus.buf.wf

end Sys2Proof.Machine
end

