-- ==== Sys2Proof/Certificates/Slice0/Obligations.lean ====
section
/-!
DEFINITION. The statements for the provers. Each docstring names the rules of `spec/` it formalises.
-/

open Sys2Proof Sys2Proof.Machine

/-! ### Encoding and the step -/

/-- Words written out from `30_encoding.md` R96 (`95_test_vectors.md` E1, E2, E7, E8, E10, E15, E17, E20 to E23, E19)
decode to the operations they stand for. -/
def Obligations.SpecWordsDecode : Prop :=
  decode [0x00#8, 0x00#8, 0x50#8, 0xC3#8, 0x00#8, 0x00#8] = .instr (.busInit 50000#32) 6 [] ∧
  decode [0x02#8, 0x01#8, 0x2A#8, 0x01#8] = .instr (.busSend [0x2A#8, 0x01#8]) 4 [] ∧
  decode [0x0B#8, 0x10#8] = .instr .evStart 2 [] ∧
  decode [0x50#8, 0x10#8, 0x7F#8] = .instr (.evRxdAck 0x7F#8) 3 [] ∧
  decode [0x38#8, 0x10#8] = .instr (.evOther 0x38#8) 2 [] ∧
  decode [0x19#8, 0x20#8] = .instr (.pdTick 0b11001#5) 2 [] ∧
  decode [0x01#8, 0x30#8, 0xD4#8, 0xFE#8] = .instr (.motSetb .m1 (BitVec.ofInt 16 (-300))) 4 [] ∧
  decode [0x00#8, 0x3A#8, 0x9C#8] = .instr (.motSetbl .m0 0x9C#8) 3 [] ∧
  decode [0x02#8, 0x39#8] = .instr (.tmrTick 2#2) 2 [] ∧
  decode [0x00#8, 0x40#8, 0x00#8, 0x00#8, 0x00#8, 0x00#8, 0x00#8, 0xC0#8] =
    .instr (.oriUpdate 0x00#8 0x00#8 0x00#8 0x00#8 0x00#8 0xC0#8) 8 [] ∧
  decode [0x05#8, 0x51#8] = .instr (.irqDisable 5#3) 2 [] ∧
  decode [0x01#8, 0x53#8] = .instr (.schTake .m) 2 []

/-- Decoding the bytes of a well-formed operation gives it back, with its length and the bytes after it, for every
operation, every operand and every configuration (R91, R92, R93, R96). -/
def Obligations.DecodeEncodeRoundTrip : Prop :=
  ∀ (c : Config) (i : Instr) (rest : List Byte), i.wellFormed c = true →
    decode (encode i ++ rest) = .instr i (encode i).length rest

/-- R92: the length of an operation is `2 + ext`, where `ext` is a function of the word alone. -/
def Obligations.OperationLengthFromWord : Prop :=
  ∀ (lo hi : Byte) (ext : List Byte) (i : Instr) (len : Nat) (rest : List Byte),
    decode (lo :: hi :: ext) = .instr i len rest →
    len = 2 + extBytes (wordOf lo hi) ∧ extBytes (wordOf lo hi) ≤ ext.length ∧
      rest = ext.drop (extBytes (wordOf lo hi))

/-- R97: exactly the reserved words are refused by name and position. -/
def Obligations.ReservedWordsRefused : Prop :=
  ∀ (s : State) (lo hi : Byte) (rest : List Byte), s.cfg.Valid → s.script = lo :: hi :: rest →
    (isReserved lo hi = true → step s = .refused (.reservedWord s.spos (wordOf lo hi))) ∧
    (isReserved lo hi = false → ∀ w, decode s.script ≠ .reserved w)

/-- R98: an operation whose operand is out of its row's range is decoded and then refused as ill-formed; the
operations R98 names as well-formed in both variants are. -/
def Obligations.IllFormedOperationsRefused : Prop :=
  (∀ (s : State) (i : Instr) (len : Nat) (rest : List Byte), s.cfg.Valid → decode s.script = .instr i len rest →
    ((∃ p, i = .busSend p ∧ (p.length = 0 ∨ 16 < p.length)) ∨
      (∃ n, i = .busRecv n ∧ (n.toNat = 0 ∨ 16 < n.toNat)) ∨
      (∃ ch, i = .pdRead ch ∧ 4 < ch.toNat) ∨
      (i = .tmrTick 3#2) ∨
      (∃ src, (i = .irqDisable src ∨ i = .irqEnable src) ∧ 5 < src.toNat) ∨
      (s.cfg.motVariant = .b ∧
        ((∃ m, i = .motOn m) ∨ i = .tmrTick 1#2 ∨ i = .irqDisable 3#3 ∨ i = .irqEnable 3#3)) ∨
      (s.cfg.motVariant = .a ∧ i = .motOvf) ∨
      (s.cfg.cmdSource = .fixedProfile ∧
        ((∃ lv, i = .pdTick lv) ∨ (∃ ch, i = .pdRead ch) ∨ i = .pdReadshut))) →
    step s = .refused .illFormed) ∧
  (∀ (c : Config) (m : MotorId) (p : Word16) (b : Byte),
    (Instr.motOff m).wellFormed c = true ∧ (Instr.motSetb m p).wellFormed c = true ∧
    (Instr.motSetbl m b).wellFormed c = true ∧ (Instr.motSetbh m b).wellFormed c = true)

/-- A step performs the operation the script's next bytes decode to, in the state that has moved past its bytes; at
the end of the script the run ends (R4, R91, `70_reset_and_hazards.md` R335; how the script stands in the state is
the model's, logs 4 and 5). -/
def Obligations.StepRunsDecodedOperation : Prop :=
  (∀ (s : State) (i : Instr) (len : Nat) (rest : List Byte), s.cfg.Valid →
    decode s.script = .instr i len rest → i.wellFormed s.cfg = true →
    step s = exec i { s with script := rest, spos := s.spos + len }) ∧
  (∀ s : State, s.cfg.Valid → s.script = [] →
    step s = .fault (.scriptEnded
      (decide (s.blocked = .none ∧ s.bus.busy = false ∧ s.bus.link = .idle ∧ s.eng.evt = none))))

/-- R9: a configuration that breaks one of the constraints is refused (`DEV_ADDR < 128` holds by its type). -/
def Obligations.BrokenConfigurationRefused : Prop :=
  ∀ s : State,
    ¬ ((1 ≤ s.cfg.motMargin ∧ s.cfg.motMargin ≤ 127) ∧ s.cfg.escCntMin < s.cfg.escCntMax ∧
      (s.cfg.escWMin < s.cfg.escWMax ∧ s.cfg.escWMax < s.cfg.escFrame) ∧
      (1 ≤ s.cfg.pdWinShort ∧ 1 ≤ s.cfg.pdWinLong) ∧ 1 ≤ s.cfg.oriDotDiv ∧ 1 ≤ s.cfg.oriTimeout ∧
      s.cfg.devAddr.toNat < 128) →
    step s = .refused .badConfig

/-- R300: the state after reset, for every configuration: the control fields at their values, the other fields
unspecified (their `Set` bits clear; no byte of the buffer). The values behind the clear bits are the model's, log 6,
and nothing is said of them here. -/
def Obligations.ResetStateFields : Prop :=
  ∀ c : Config, ∃ s : State, s = State.resetWith c ∧
    s.bus.busy = false ∧ s.bus.link.code = 0#3 ∧ s.bus.dir.bit = false ∧ s.bus.len = 0#5 ∧
    (s.bus.curSet = true ∧ s.bus.cur = 0#5) ∧ s.bus.outcome.code = 0#2 ∧ s.bus.ackarm = false ∧
    s.eng.req = .none ∧ s.eng.evt = none ∧ s.eng.phase = .afterStart ∧ s.eng.owned = false ∧
    s.blocked = .none ∧ s.buslog = [] ∧
    (∀ id, (s.pd.chan id).num = 0#16 ∧ (s.pd.chan id).den = 0#16 ∧ (s.pd.chan id).dutySet = false) ∧
    (s.tmr.tcnt .m0 = 0#16 ∧ s.tmr.tcnt .m1 = 0#16 ∧ s.tmr.esccnt = 0#16) ∧
    (s.ori.oriraw.val = 0 ∧ s.ori.orifilt.val = 0 ∧ s.ori.oricnt = 0) ∧
    (s.tickn = 0#16 ∧ s.tickm = 0#16) ∧
    (∀ src, s.irq.en src = false ∧ s.irq.pend src = []) ∧
    (s.irq.pendSampler = false ∧ s.irq.pendDisplay = false) ∧
    (s.bus.busdivSet = false ∧ ∀ a, s.bus.buf.read? a = none) ∧ s.pd.shutcondSet = false ∧
    (∀ m, (s.motor m).powerSet = false ∧ (s.motor m).offthrSet = false ∧ (s.motor m).pinsSet = false) ∧
    (s.esc.escpowerSet = false ∧ s.esc.escshutSet = false ∧ s.esc.escwidthSet = false ∧
      s.esc.pinescSet = false) ∧
    (s.ori.sampleSet = false ∧ s.ori.downnessSet = false)

/-- The reset state of every valid configuration meets every invariant below. `State.reset` is that state for the
example parameters EX1 (`00_scope.md` R8): that it is EX1 is the model's choice, log 1. -/
def Obligations.ResetMeetsInvariants : Prop :=
  State.reset = State.resetWith Config.ex1 ∧
  ∀ c : Config, c.Valid →
    BusInv (State.resetWith c) ∧ EngInv (State.resetWith c) ∧ BufInv (State.resetWith c) ∧
    MemInv (State.resetWith c) ∧ DecoderInv (State.resetWith c) ∧ OriInv (State.resetWith c) ∧
    TimerInv (State.resetWith c) ∧ PendInv (State.resetWith c)

/-! ### Invariants every step keeps -/

/-- `40_bus_driver.md` R154 (a) to (f) with the meaning of the link states (`10_state.md` R25). -/
def Obligations.StepKeepsBusInvariant : Prop :=
  ∀ s t : State, BusInv s → step s = .next t → BusInv t

/-- The byte engine never has both a request and a pending event (`40_bus_driver.md` R154 (i)); with no event pending it
holds exactly the request the link state calls for, and while a listed event waits a transaction is in flight (R150,
`10_state.md` R25). That, while an unexpected status code is held by the disabled source, the request stands over in a
field of the model's own is the model's reading of R151 with R154 (i) and `60_exceptions.md` R278, log 10. -/
def Obligations.StepKeepsEngineInvariant : Prop :=
  ∀ s t : State, BusInv s → PendInv s → EngInv s → step s = .next t → EngInv t

/-- The bytes a rule may still read stay specified (R154 (h), `20_memory.md` R73). -/
def Obligations.StepKeepsReadableBytes : Prop :=
  ∀ s t : State, BusInv s → BufInv s → step s = .next t → BufInv t

/-- The transaction buffer keeps its canonical form: indices rising and below 16. The indices 0 to 15 are those of
`20_memory.md` R60 and R85; that the buffer is a list of cells with rising indices is the model's choice of form,
log 8. -/
def Obligations.StepKeepsBufferCanonical : Prop :=
  ∀ s t : State, MemInv s → step s = .next t → MemInv t

/-- `41_pulse_decoder.md` R178: `0 <= num[c] <= den[c] < WIN[c]` for every channel. -/
def Obligations.StepKeepsAccumulators : Prop :=
  ∀ s t : State, DecoderInv s → step s = .next t → DecoderInv t

/-- `43_orientation_filter.md` R235. -/
def Obligations.StepKeepsOrientationInvariant : Prop :=
  ∀ s t : State, OriInv s → step s = .next t → OriInv t

/-- The counters stay in their ranges (`10_state.md` R44) and the thresholds in theirs (R42, R43). -/
def Obligations.StepKeepsTimerRanges : Prop :=
  ∀ s t : State, TimerInv s → step s = .next t → TimerInv t

/-- The pending lists have no repeats and only operations of their source, and nothing is pending of an enabled
source (`10_state.md` R52, `60_exceptions.md` R278, R282). -/
def Obligations.StepKeepsPendingForm : Prop :=
  ∀ s t : State, BusInv s → PendInv s → step s = .next t → PendInv t

/-! ### Rules of the whole machine -/

/-- `40_bus_driver.md` R153: `link` changes only by the rows of the transition table. -/
def Obligations.LinkTransitions : Prop :=
  ∀ (i : Instr) (s t : State), BusInv s → exec i s = .next t →
    t.bus.link = s.bus.link ∨ LinkMove i s.bus.link t.bus.link

/-- `10_state.md` R33: while the host is inside a blocking call it can perform no operation other than BUS.RET, and
only BUS.SEND, BUS.RECV and BUS.RET change `host.blocked`. -/
def Obligations.BlockedHostOnlyReturns : Prop :=
  (∀ (i : Instr) (s t : State), s.blocked ≠ .none → isHostOp i = true → exec i s = .next t → i = .busRet) ∧
  (∀ (i : Instr) (s t : State), exec i s = .next t → t.blocked ≠ s.blocked →
    ((∃ p, i = .busSend p) ∧ t.blocked = .inSend) ∨ ((∃ n, i = .busRecv n) ∧ t.blocked = .inRecv) ∨
    (i = .busRet ∧ t.blocked = .none))

/-- The other families leave the BusDriver's fields, the byte engine, the host's block and the wire log as they are
(`20_memory.md` R77, `60_exceptions.md` R290); IRQ.ENABLE of source 0 alone may serve a held bus event (R282). -/
def Obligations.OtherFamiliesLeaveBusDriver : Prop :=
  ∀ (i : Instr) (s t : State), isBusOp i = false → i ≠ .irqEnable 0#3 → exec i s = .next t →
    t.bus = s.bus ∧ t.eng = s.eng ∧ t.blocked = s.blocked ∧ t.buslog = s.buslog

/-- The output pins are driven only by the motor and ESC handlers (`10_state.md` R45): any other operation leaves
every pin and the pin trace as they are. -/
def Obligations.PinsOnlyDrivenByHandlers : Prop :=
  ∀ (i : Instr) (s t : State), mayDrivePins i = false → exec i s = .next t →
    t.pinlog = s.pinlog ∧ t.esc.pinesc = s.esc.pinesc ∧ t.esc.pinescSet = s.esc.pinescSet ∧
    ∀ m, (t.motor m).pinA = (s.motor m).pinA ∧ (t.motor m).pinB = (s.motor m).pinB ∧
      (t.motor m).pinsSet = (s.motor m).pinsSet

/-- One writer per field group (`60_exceptions.md` R290): the parameters never change (`00_scope.md` R8); the filter
changes only by ORI.UPDATE; the accumulators, duty bytes and shutdown condition only by the sampler handler; the tick
counters only by the display-tick handler and SCH.TAKE; the motor commands and thresholds only by the host's MOT
operations; the counters of the timers only by TMR.TICK; the pins only by the motor and ESC handlers; the enable bits
only by the host; direction and length, and `busy` set, only at a call entry or BUS.INIT; `busy` clear, `link`, `cur`,
`outcome`, `ackarm` and the buffer by the bus handler, `link` also by EV.STOPDONE, and by the call entries and BUS.INIT
where those write them. IRQ.ENABLE stands wherever it runs a held handler (R282). -/
def Obligations.OneWriterPerFieldGroup : Prop :=
  ∀ (i : Instr) (s t : State), exec i s = .next t →
    t.cfg = s.cfg ∧
    (t.ori ≠ s.ori → ∃ a b c d e f, i = .oriUpdate a b c d e f) ∧
    (t.pd ≠ s.pd → (∃ lv, i = .pdTick lv) ∨ (∃ src, i = .irqEnable src)) ∧
    (t.tickn ≠ s.tickn ∨ t.tickm ≠ s.tickm →
      i = .schDtick ∨ (∃ k, i = .schTake k) ∨ (∃ src, i = .irqEnable src)) ∧
    (∀ m, (t.motor m).power ≠ (s.motor m).power →
      (∃ p, i = .motSetb m p) ∨ (∃ b, i = .motSetbl m b) ∨ (∃ b, i = .motSetbh m b)) ∧
    (∀ m, (t.motor m).offthr ≠ (s.motor m).offthr → i = .motRecomp) ∧
    (t.esc.escpower ≠ s.esc.escpower → ∃ p, i = .motSete p) ∧
    (t.esc.escshut ≠ s.esc.escshut → ∃ f, i = .motShut f) ∧
    (t.esc.escwidth ≠ s.esc.escwidth → i = .motRecomp) ∧
    (t.tmr ≠ s.tmr → ∃ k, i = .tmrTick k) ∧
    (t.bus.busdiv ≠ s.bus.busdiv → ∃ hz, i = .busInit hz) ∧
    ((∃ m, (t.motor m).pinA ≠ (s.motor m).pinA ∨ (t.motor m).pinB ≠ (s.motor m).pinB) ∨
        t.esc.pinesc ≠ s.esc.pinesc → mayDrivePins i = true) ∧
    (∀ src, t.irq.en src ≠ s.irq.en src →
      (∃ hz, i = .busInit hz ∧ src = .bus) ∨ (∃ k, i = .irqDisable k) ∨ (∃ k, i = .irqEnable k)) ∧
    (t.bus.dir ≠ s.bus.dir ∨ t.bus.len ≠ s.bus.len ∨ (t.bus.busy = true ∧ s.bus.busy = false) →
      (∃ hz, i = .busInit hz) ∨ (∃ p, i = .busSend p) ∨ ∃ n, i = .busRecv n) ∧
    (t.bus.busy = false ∧ s.bus.busy = true → isListedEvent i = true ∨ i = .irqEnable 0#3) ∧
    (t.bus.link ≠ s.bus.link →
      (∃ hz, i = .busInit hz) ∨ isListedEvent i = true ∨ i = .evStopdone ∨ i = .irqEnable 0#3) ∧
    (t.bus.cur ≠ s.bus.cur ∨ t.bus.outcome ≠ s.bus.outcome →
      (∃ hz, i = .busInit hz) ∨ (∃ p, i = .busSend p) ∨ (∃ n, i = .busRecv n) ∨
        isListedEvent i = true ∨ i = .irqEnable 0#3) ∧
    (t.bus.ackarm ≠ s.bus.ackarm →
      (∃ hz, i = .busInit hz) ∨ i = .evSlarAck ∨ (∃ d, i = .evRxdAck d) ∨ i = .irqEnable 0#3) ∧
    (t.bus.buf ≠ s.bus.buf →
      (∃ p, i = .busSend p) ∨ (∃ n, i = .busRecv n) ∨ isListedEvent i = true ∨ i = .irqEnable 0#3)

/-- Handlers of distinct sources commute (`60_exceptions.md` R280): the display tick against any other handler
operation or timer tick, when both complete. -/
def Obligations.DisplayTickCommutes : Prop :=
  ∀ (i : Instr) (s t : State), isHostOp i = false → i ≠ .schDtick → exec i s = .next t →
    ∃ u v, exec .schDtick s = .next u ∧ exec .schDtick t = .next v ∧ exec i u = .next v

/-- While the host waits in a call with source 0 enabled, some bus event has a step (R150, R154): a hang needs a
byte engine that never answers or a disabled source (`60_exceptions.md` R271). -/
def Obligations.WaitingBusHasAStep : Prop :=
  ∀ s : State, BusInv s → EngInv s → BufInv s → PendInv s → s.bus.busy = true → s.irq.enBus = true →
    ∃ i t, isListedEvent i = true ∧ exec i s = .next t

/-- `60_exceptions.md` R271: a host that waits with source 0 disabled waits for ever, whatever else happens. -/
def Obligations.HungHostStaysHung : Prop :=
  ∀ (i : Instr) (s t : State), Hung s → exec i s = .next t → Hung t

/-! ### BusDriver -/

/-- BUS.INIT (R130): its encoding, its effect, its refusals, and that the bus clock reached is never below the
target. That it leaves the buffer, `BUSCTL` and `BUSDATA` (and the model's own `standby`) as they are is the model's
reading: R130 lists the fields it writes and these are not among them, logs 22 and 16. -/
def Obligations.BusInitLoadsDivisor : Prop :=
  (∀ (e0 e1 e2 e3 : Byte) (rest : List Byte),
    decode (0x00#8 :: 0x00#8 :: e0 :: e1 :: e2 :: e3 :: rest) =
      .instr (.busInit (BitVec.ofNat 32
        (e0.toNat + 256 * e1.toNat + 65536 * e2.toNat + 16777216 * e3.toNat))) 6 rest) ∧
  (∀ (s : State) (hz : BitVec 32) (q d : Nat), q = s.cfg.cpuHz / hz.toNat → d = (q - 16) / 2 →
    s.blocked = .none → s.bus.busy = false → hz.toNat ≠ 0 → 16 ≤ q → d ≤ 255 →
    exec (.busInit hz) s = .next { s with
      bus := { s.bus with
        busdiv := BitVec.ofNat 8 d, busdivSet := true
        busy := false, link := .idle, outcome := .pending, dir := .send
        len := 0#5, cur := 0#5, curSet := true, ackarm := false }
      eng := { s.eng with req := .none, evt := none, phase := .afterStart, owned := false }
      irq := { s.irq with enBus := true } } ∧
    hz.toNat * sclPeriod (BitVec.ofNat 8 d) ≤ s.cfg.cpuHz) ∧
  (∀ (s : State) (hz : BitVec 32),
    (s.blocked ≠ .none ∨ s.bus.busy = true → exec (.busInit hz) s = .refused .initDuringTransaction) ∧
    (s.blocked = .none → s.bus.busy = false →
      (hz.toNat = 0 → exec (.busInit hz) s = .refused .divisionByZero) ∧
      (hz.toNat ≠ 0 → s.cfg.cpuHz / hz.toNat < 16 → exec (.busInit hz) s = .refused .clockTooFast) ∧
      (hz.toNat ≠ 0 → 255 < (s.cfg.cpuHz / hz.toNat - 16) / 2 →
        exec (.busInit hz) s = .refused .clockTooSlow)))

/-- BUS.SEND (R132) in its context (R131): the payload is stored from index 0, every other byte of the buffer is
unchanged, and the start is requested. The register face is that of `30_encoding.md` R110. -/
def Obligations.BusSendEntry : Prop :=
  ∀ (s : State) (p : List Byte), s.blocked = .none → s.bus.busy = false → s.bus.link = .idle →
    s.bus.busdivSet = true → 1 ≤ p.length → p.length ≤ 16 →
    ∃ t, exec (.busSend p) s = .next t ∧
      t = { s with
        blocked := .inSend
        eng := { s.eng with req := .start, evt := none, busctl := 0xA5#8 }
        bus := { s.bus with
          dir := .send, buf := t.bus.buf, len := BitVec.ofNat 5 p.length, cur := 0#5, curSet := true
          outcome := .pending, busy := true } } ∧
      (∀ (a : Nat) (h : a < p.length), t.bus.buf.read? a = some p[a]) ∧
      (∀ a : Nat, p.length ≤ a → t.bus.buf.read? a = s.bus.buf.read? a)

/-- BUS.RECV (R133) in its context (R131): every byte of the buffer becomes unspecified. -/
def Obligations.BusRecvEntry : Prop :=
  ∀ (s : State) (n : Byte), s.blocked = .none → s.bus.busy = false → s.bus.link = .idle →
    s.bus.busdivSet = true → 1 ≤ n.toNat → n.toNat ≤ 16 →
    ∃ t, exec (.busRecv n) s = .next t ∧
      t = { s with
        blocked := .inRecv
        eng := { s.eng with req := .start, evt := none, busctl := 0xA5#8 }
        bus := { s.bus with
          dir := .receive, buf := t.bus.buf, len := BitVec.ofNat 5 n.toNat, cur := 0#5, curSet := true
          outcome := .pending, busy := true } } ∧
      ∀ a : Nat, t.bus.buf.read? a = none

/-- R131: BUS.SEND and BUS.RECV are refused when a precondition fails. -/
def Obligations.CallPreconditions : Prop :=
  ∀ (s : State) (i : Instr) (n : Nat),
    ((∃ p, i = .busSend p ∧ n = p.length) ∨ (∃ k, i = .busRecv k ∧ n = k.toNat)) →
    (s.blocked ≠ .none ∨ s.bus.busy = true ∨ s.bus.link ≠ .idle ∨ s.bus.busdivSet = false ∨ n = 0 ∨ 16 < n) →
    ∃ r, exec i s = .refused r

/-- BUS.RET (R135): its encoding, its results, and its refusal outside its context. -/
def Obligations.BusRetReturns : Prop :=
  (∀ rest : List Byte, decode (0x00#8 :: 0x03#8 :: rest) = .instr .busRet 2 rest) ∧
  (∀ s : State, s.blocked = .inSend → s.bus.busy = false → s.bus.link = .idle →
    (s.bus.outcome = .acked →
      exec .busRet s = .next { s with blocked := .none, results := s.results ++ [.sent true] }) ∧
    (s.bus.outcome ≠ .acked →
      exec .busRet s = .next { s with blocked := .none, results := s.results ++ [.sent false] })) ∧
  (∀ (s : State) (bs : List Byte), s.blocked = .inRecv → s.bus.busy = false → s.bus.link = .idle →
    (s.bus.outcome = .acked → bs.length = s.bus.len.toNat → bs.length ≤ 16 →
      (∀ (a : Nat) (h : a < bs.length), s.bus.buf.read? a = some bs[a]) →
      exec .busRet s = .next { s with blocked := .none, results := s.results ++ [.received (some bs)] }) ∧
    (s.bus.outcome ≠ .acked →
      exec .busRet s = .next { s with blocked := .none, results := s.results ++ [.received none] })) ∧
  (∀ s : State, (s.blocked = .none ∨ s.bus.busy = true ∨ s.bus.link ≠ .idle) →
    exec .busRet s = .refused .retNotEnabled)

/-- EV.START (R136) and EV.RSTART (R138): the address byte `(DEV_ADDR << 1) + dir` (`30_encoding.md` R104) is handed
over. That EV.RSTART runs with either ownership is the model's reading of R138's corner case, log 9. -/
def Obligations.StartHandsAddress : Prop :=
  ∀ (s : State) (a : Byte),
    a = BitVec.ofNat 8 (2 * s.cfg.devAddr.toNat + (if s.bus.dir = .receive then 1 else 0)) →
    s.bus.busy = true → s.bus.link = .idle → s.bus.outcome = .pending → s.eng.evt = none →
    s.eng.req = .start → s.irq.enBus = true →
    (s.eng.owned = false → exec .evStart s = .next { s with
      buslog := s.buslog ++ [.s]
      eng := { s.eng with
        req := .tx a, evt := none, phase := .afterStart, owned := true, busctl := 0x85#8, busdata := a }
      bus := { s.bus with link := .addressPhase } }) ∧
    exec .evRstart s = .next { s with
      buslog := s.buslog ++ [.sr]
      eng := { s.eng with
        req := .tx a, evt := none, phase := .afterStart, owned := true, busctl := 0x85#8, busdata := a }
      bus := { s.bus with link := .addressPhase } }

/-- EV.SLAW_ACK (R139) and EV.TXD_ACK (R140): the next byte is handed over and the cursor advances, or the
transaction completes (R141). -/
def Obligations.AcknowledgedSendGoesOn : Prop :=
  ∀ (s : State) (i : Instr) (b : Byte), s.bus.busy = true → s.bus.dir = .send → s.eng.evt = none →
    s.eng.req = .tx b → s.irq.enBus = true → s.bus.curSet = true →
    ((i = .evSlawAck ∧ s.bus.link = .addressPhase ∧ s.eng.phase = .afterStart ∧ b.getLsbD 0 = false) ∨
      (i = .evTxdAck ∧ s.bus.link = .transmitPhase ∧ s.eng.phase = .mt)) →
    (∀ v : Byte, s.bus.cur.toNat < s.bus.len.toNat → s.bus.cur.toNat < 16 →
      s.bus.buf.read? s.bus.cur.toNat = some v →
      exec i s = .next { s with
        buslog := s.buslog ++ [.byte b false]
        eng := { s.eng with req := .tx v, evt := none, phase := .mt, busctl := 0x85#8, busdata := v }
        bus := { s.bus with cur := BitVec.ofNat 5 (s.bus.cur.toNat + 1), link := .transmitPhase } }) ∧
    (s.bus.len.toNat ≤ s.bus.cur.toNat →
      exec i s = .next { s with
        buslog := s.buslog ++ [.byte b false]
        eng := { s.eng with req := .stop, evt := none, phase := .mt, busctl := 0x95#8 }
        bus := { s.bus with outcome := .acked, busy := false, link := .stopPending } })

/-- EV.SLAW_NACK (R142), EV.TXD_NACK (R143), EV.SLAR_NACK (R145): the abort step (R137). Every byte of the buffer and
the cursor become unspecified. That the cursor keeps its old bits behind its cleared bit `curSet` is the model's
choice, log 7: R137 says of them only that they are unspecified. -/
def Obligations.NotAcknowledgeAborts : Prop :=
  ∀ (s : State) (i : Instr) (b : Byte) (ph : EngPhase), s.bus.busy = true → s.eng.evt = none →
    s.eng.req = .tx b → s.irq.enBus = true →
    ((i = .evSlawNack ∧ s.bus.dir = .send ∧ s.bus.link = .addressPhase ∧ s.eng.phase = .afterStart ∧
        b.getLsbD 0 = false ∧ ph = .mt) ∨
      (i = .evTxdNack ∧ s.bus.dir = .send ∧ s.bus.link = .transmitPhase ∧ s.eng.phase = .mt ∧ ph = .mt) ∨
      (i = .evSlarNack ∧ s.bus.dir = .receive ∧ s.bus.link = .addressPhase ∧ s.eng.phase = .afterStart ∧
        b.getLsbD 0 = true ∧ ph = .mr)) →
    ∃ t, exec i s = .next t ∧ (∀ a, t.bus.buf.read? a = none) ∧
      t = { s with
        buslog := s.buslog ++ [.byte b true]
        eng := { s.eng with req := .stop, evt := none, phase := ph, busctl := 0x95#8 }
        bus := { s.bus with
          outcome := .nackAbort, busy := false, link := .stopPending, buf := t.bus.buf, curSet := false } }

/-- EV.SLAR_ACK (R144): with exactly one byte to read the receiver is armed not to acknowledge, otherwise it is armed
to acknowledge (R157). -/
def Obligations.AcknowledgedReadArms : Prop :=
  ∀ (s : State) (b : Byte), s.bus.busy = true → s.bus.dir = .receive → s.bus.link = .addressPhase →
    s.eng.evt = none → s.eng.req = .tx b → b.getLsbD 0 = true → s.eng.phase = .afterStart →
    s.irq.enBus = true → s.bus.curSet = true →
    ((s.bus.len.toNat : Int) - s.bus.cur.toNat = 1 →
      exec .evSlarAck s = .next { s with
        buslog := s.buslog ++ [.byte b false]
        eng := { s.eng with req := .rx false, evt := none, phase := .mr, busctl := 0x85#8 }
        bus := { s.bus with ackarm := false, link := .receivePhaseLast } }) ∧
    ((s.bus.len.toNat : Int) - s.bus.cur.toNat ≠ 1 →
      exec .evSlarAck s = .next { s with
        buslog := s.buslog ++ [.byte b false]
        eng := { s.eng with req := .rx true, evt := none, phase := .mr, busctl := 0xC5#8 }
        bus := { s.bus with ackarm := true, link := .receivePhaseMulti } })

/-- EV.RXD_ACK (R146): the byte is stored at the cursor, the cursor advances, every other byte is unchanged, and the
receiver is armed for the next byte. -/
def Obligations.ReceivedByteStored : Prop :=
  ∀ (s : State) (d : Byte), s.bus.busy = true → s.bus.dir = .receive → s.bus.link = .receivePhaseMulti →
    s.eng.evt = none → s.eng.req = .rx true → s.eng.phase = .mr → s.irq.enBus = true →
    s.bus.curSet = true → s.bus.cur.toNat < 16 →
    ∃ t, exec (.evRxdAck d) s = .next t ∧
      t.bus.buf.read? s.bus.cur.toNat = some d ∧
      (∀ a, a ≠ s.bus.cur.toNat → t.bus.buf.read? a = s.bus.buf.read? a) ∧
      (s.bus.len.toNat = s.bus.cur.toNat + 2 →
        t = { s with
          buslog := s.buslog ++ [.byte d false]
          eng := { s.eng with req := .rx false, evt := none, phase := .mr, busctl := 0x85#8 }
          bus := { s.bus with
            buf := t.bus.buf, cur := BitVec.ofNat 5 (s.bus.cur.toNat + 1)
            ackarm := false, link := .receivePhaseLast } }) ∧
      (s.bus.len.toNat ≠ s.bus.cur.toNat + 2 →
        t = { s with
          buslog := s.buslog ++ [.byte d false]
          eng := { s.eng with req := .rx true, evt := none, phase := .mr, busctl := 0xC5#8 }
          bus := { s.bus with buf := t.bus.buf, cur := BitVec.ofNat 5 (s.bus.cur.toNat + 1) } })

/-- EV.RXD_NACK (R149): the final byte is stored and the transaction completes (R141). -/
def Obligations.FinalByteCompletes : Prop :=
  ∀ (s : State) (d : Byte), s.bus.busy = true → s.bus.dir = .receive → s.bus.link = .receivePhaseLast →
    s.eng.evt = none → s.eng.req = .rx false → s.eng.phase = .mr → s.irq.enBus = true →
    s.bus.curSet = true → s.bus.cur.toNat < 16 →
    ∃ t, exec (.evRxdNack d) s = .next t ∧
      t.bus.buf.read? s.bus.cur.toNat = some d ∧
      (∀ a, a ≠ s.bus.cur.toNat → t.bus.buf.read? a = s.bus.buf.read? a) ∧
      t = { s with
        buslog := s.buslog ++ [.byte d true]
        eng := { s.eng with req := .stop, evt := none, phase := .mr, busctl := 0x95#8 }
        bus := { s.bus with
          buf := t.bus.buf, cur := BitVec.ofNat 5 (s.bus.cur.toNat + 1)
          outcome := .acked, busy := false, link := .stopPending } }

/-- EV.OTHER (R151): the handler re-arms and alters nothing of the transaction; with source 0 disabled the event is
held (`60_exceptions.md` R278). That the engine's request then stands over in a field of the model's own is the model's
reading, log 10. -/
def Obligations.UnexpectedStatusRearms : Prop :=
  ∀ (s : State) (st : Byte), st &&& 0xF8#8 ∉ listedStatus →
    (s.irq.enBus = true → exec (.evOther st) s = .next { s with
      eng := { s.eng with evt := none, busctl := if s.bus.ackarm then 0xC5#8 else 0x85#8 } }) ∧
    (s.irq.enBus = false → s.eng.evt = none → exec (.evOther st) s = .next { s with
      eng := { s.eng with req := .none, evt := some ⟨st &&& 0xF8#8, none⟩, standby := s.eng.req } })

/-- EV.STOPDONE (R147): its encoding, its effect in its context, and its refusal outside it. -/
def Obligations.StopDoneIdles : Prop :=
  (∀ rest : List Byte, decode (0x00#8 :: 0x11#8 :: rest) = .instr .evStopdone 2 rest) ∧
  (∀ s : State, s.eng.req = .stop → s.bus.link = .stopPending →
    exec .evStopdone s = .next { s with
      buslog := s.buslog ++ [.p]
      eng := { s.eng with owned := false, phase := .afterStart, req := .none }
      bus := { s.bus with link := .idle } }) ∧
  (∀ s : State, (s.eng.req ≠ .stop ∨ s.bus.link ≠ .stopPending) → exec .evStopdone s = .refused .outOfContract)

/-- A listed event that arrives in its context while source 0 is disabled is held: only its engine part happens (R127,
`60_exceptions.md` R278), that is, its symbol is on the wires, its status code and data byte are pending, and the
engine has carried out its request (R136 to R149); the example is EV.START of `95_test_vectors.md` B10. -/
def Obligations.DisabledBusHoldsEvent : Prop :=
  (∀ (s t : State) (i : Instr), isListedEvent i = true → s.irq.enBus = false → exec i s = .next t →
    ∃ sym ev ph own, EnginePart i s.eng sym ev ph own ∧ t = { s with
      buslog := s.buslog ++ [sym]
      eng := { s.eng with req := .none, evt := some ev, phase := ph, owned := own } }) ∧
  (∀ (s : State) (i : Instr), isListedEvent i = true → s.irq.enBus = false → EventContext i s →
    ∃ t, exec i s = .next t) ∧
  (∀ s : State, s.irq.enBus = false → EventContext .evStart s →
    exec .evStart s = .next { s with
      buslog := s.buslog ++ [.s]
      eng := { s.eng with req := .none, evt := some ⟨0x08#8, none⟩, phase := .afterStart, owned := true } })

/-- R152: a listed event outside the context its rule gives is refused. (EV.RSTART's context leaves the ownership
open, log 9.) -/
def Obligations.OutOfContractEventsRefused : Prop :=
  ∀ (i : Instr) (s : State), isListedEvent i = true → ¬ EventContext i s → exec i s = .refused .outOfContract

/-! ### PulseDecoder -/

/-- PD.TICK (R171 to R174): every channel counts its level; the window's last tick publishes and zeroes the
accumulator; a tick of the disabled source is held (`60_exceptions.md` R278). -/
def Obligations.SamplerTickCounts : Prop :=
  ∀ (s : State) (lv : BitVec 5), s.cfg.Valid → s.cfg.cmdSource = .pulseDecoded → DecoderInv s →
    (s.irq.enSampler = false → exec (.pdTick lv) s = .next { s with
      pd := { s.pd with lines := lv }, irq := { s.irq with pendSampler := true } }) ∧
    (s.irq.enSampler = true → ∃ t, exec (.pdTick lv) s = .next t ∧ t = { s with pd := t.pd } ∧
      t.pd.lines = lv ∧
      (∀ (id : ChanId) (k win n : Nat),
        (id, k) ∈ [(ChanId.c0, 0), (.c1, 1), (.c2, 2), (.c3, 3), (.c4, 4)] →
        win = (if id = .c4 then s.cfg.pdWinLong else s.cfg.pdWinShort) →
        n = (s.pd.chan id).num.toNat + (if lv.getLsbD k then 1 else 0) →
        ((s.pd.chan id).den.toNat + 1 = win →
          (t.pd.chan id).num = 0#16 ∧ (t.pd.chan id).den = 0#16 ∧ (t.pd.chan id).dutySet = true ∧
          (id ≠ .c4 → (t.pd.chan id).duty.toNat = n * 255 / win) ∧
          (id = .c4 →
            (t.pd.chan id).duty.toNat = min ((n - s.cfg.escCntMin) * 255 / (s.cfg.escCntMax - s.cfg.escCntMin)) 255 ∧
            t.pd.shutcond = decide (n < s.cfg.escCntShut) ∧ t.pd.shutcondSet = true)) ∧
        ((s.pd.chan id).den.toNat + 1 ≠ win →
          (t.pd.chan id).num.toNat = n ∧ (t.pd.chan id).den.toNat = (s.pd.chan id).den.toNat + 1 ∧
          (t.pd.chan id).duty = (s.pd.chan id).duty ∧ (t.pd.chan id).dutySet = (s.pd.chan id).dutySet ∧
          (id = .c4 → t.pd.shutcond = s.pd.shutcond ∧ t.pd.shutcondSet = s.pd.shutcondSet))))

/-- PD.READ (R176), PD.READSHUT (R177) and ORI.SIGN (R237) return the field and change nothing else; before the first
publication the two reads of the decoder are refused (`70_reset_and_hazards.md` R302). -/
def Obligations.HostReadsReturn : Prop :=
  ∀ s : State, s.blocked = .none →
    (s.cfg.cmdSource = .pulseDecoded →
      (∀ (id : ChanId) (k : BitVec 3),
        (id, k) ∈ [(ChanId.c0, 0#3), (.c1, 1#3), (.c2, 2#3), (.c3, 3#3), (.c4, 4#3)] →
        ((s.pd.chan id).dutySet = true →
          exec (.pdRead k) s = .next { s with results := s.results ++ [.duty (s.pd.chan id).duty] }) ∧
        ((s.pd.chan id).dutySet = false →
          exec (.pdRead k) s = .refused (.unspecifiedField (.duty id)))) ∧
      (s.pd.shutcondSet = true →
        exec .pdReadshut s = .next { s with results := s.results ++ [.shut s.pd.shutcond] }) ∧
      (s.pd.shutcondSet = false → exec .pdReadshut s = .refused (.unspecifiedField .shutcond))) ∧
    exec .oriSign s = .next { s with results := s.results ++ [.sign s.ori.orifilt] }

/-- The published byte is the count of high samples times 255 over the window, wherever they stand in it (R172,
R179): so half a window gives 127, a full one 255, an empty one 0. -/
def Obligations.WindowPublishesCount : Prop :=
  ∀ (s : State) (id : ChanId) (k : Nat) (lvs : List (BitVec 5)),
    (id, k) ∈ [(ChanId.c0, 0), (.c1, 1), (.c2, 2), (.c3, 3)] →
    s.cfg.Valid → s.cfg.cmdSource = .pulseDecoded → s.irq.enSampler = true →
    (s.pd.chan id).num = 0#16 → (s.pd.chan id).den = 0#16 → lvs.length = s.cfg.pdWinShort →
    ∃ t, runOps (lvs.map .pdTick) s = .next t ∧
      (t.pd.chan id).num = 0#16 ∧ (t.pd.chan id).den = 0#16 ∧ (t.pd.chan id).dutySet = true ∧
      (t.pd.chan id).duty.toNat =
        (lvs.countP fun lv => lv.getLsbD k) * 255 / s.cfg.pdWinShort ∧
      (2 * (lvs.countP fun lv => lv.getLsbD k) = s.cfg.pdWinShort → (t.pd.chan id).duty = 127#8)

/-! ### MotorDriver -/

/-- MOT.SETB (R191), MOT.SETE (R192), MOT.SHUT (R193), MOT.SETBL (R197), MOT.SETBH (R198): what each stores; nothing
else changes. -/
def Obligations.MotorCommandsStore : Prop :=
  ∀ s : State, s.blocked = .none →
    (∀ (m : MotorId) (p : Word16), ∃ v : Word16, v.toInt = max (-255) (min p.toInt 255) ∧
      exec (.motSetb m p) s = .next (s.setMotor m { s.motor m with
        power := v, powerLoSet := true, powerHiSet := true })) ∧
    (∀ p : Byte, exec (.motSete p) s = .next { s with esc := { s.esc with escpower := p, escpowerSet := true } }) ∧
    (∀ f : Bool, exec (.motShut f) s = .next { s with esc := { s.esc with escshut := f, escshutSet := true } }) ∧
    (∀ (m : MotorId) (b : Byte), ∃ v : Word16,
      v.toNat = (s.motor m).power.toNat / 256 * 256 + b.toNat ∧
      exec (.motSetbl m b) s = .next (s.setMotor m { s.motor m with power := v, powerLoSet := true })) ∧
    (∀ (m : MotorId) (b : Byte), ∃ v : Word16,
      v.toNat = b.toNat * 256 + (s.motor m).power.toNat % 256 ∧
      exec (.motSetbh m b) s = .next (s.setMotor m { s.motor m with power := v, powerHiSet := true }))

/-- MOT.RECOMP (R196, R207): the off thresholds and the ESC width from the current powers; refused before `power` and
`escpower` were written (F13). -/
def Obligations.RecomputeThresholds : Prop :=
  ∀ s : State, s.cfg.Valid → s.blocked = .none →
    (s.mot0.powerSet = true → s.mot1.powerSet = true → s.esc.escpowerSet = true →
      ∃ (o0 o1 w : Word16),
        (s.cfg.motVariant = .a →
          o0.toNat = min s.mot0.power.toInt.natAbs 255 * s.cfg.motTopA / 255 ∧
          o1.toNat = min s.mot1.power.toInt.natAbs 255 * s.cfg.motTopA / 255) ∧
        (s.cfg.motVariant = .b →
          o0.toNat = min s.mot0.power.toInt.natAbs 255 ∧ o1.toNat = min s.mot1.power.toInt.natAbs 255) ∧
        w.toNat = s.cfg.escWMin + s.esc.escpower.toNat * (s.cfg.escWMax - s.cfg.escWMin) / 255 ∧
        exec .motRecomp s = .next { s with
          mot0 := { s.mot0 with offthr := o0, offthrSet := true }
          mot1 := { s.mot1 with offthr := o1, offthrSet := true }
          esc := { s.esc with escwidth := w, escwidthSet := true } }) ∧
    ((s.mot0.powerSet = false ∨ s.mot1.powerSet = false ∨ s.esc.escpowerSet = false) →
      ∃ r, exec .motRecomp s = .refused r)

/-- MOT.ON (R200), MOT.OFF (R201) and MOT.OVF (R202) on an enabled source: the pins by the margin class and the sign
of the live power (R194, R195, R199). -/
def Obligations.BrushedHandlersDrivePins : Prop :=
  ∀ (s : State) (drive : MotorId → Bool → Bool → State → State) (on : MotorId → State → State),
    s.cfg.Valid →
    (∀ m a b u, drive m a b u =
      { u.setMotor m { u.motor m with pinA := a, pinB := b, pinsSet := true } with
        pinlog := u.pinlog ++ [.motor m a b] }) →
    (∀ m u, on m u =
      if min (u.motor m).power.toInt.natAbs 255 < u.cfg.motMargin then u
      else if 0 < (u.motor m).power.toInt then drive m true false u else drive m false true u) →
    (∀ m, s.cfg.motVariant = .a → s.irq.en ((TimerOp.motOn m).source .a) = true → (s.motor m).powerSet = true →
      exec (.motOn m) s = .next (on m s)) ∧
    (∀ m, s.irq.en ((TimerOp.motOff m).source s.cfg.motVariant) = true → (s.motor m).powerSet = true →
      exec (.motOff m) s = .next
        (if 255 < min (s.motor m).power.toInt.natAbs 255 + s.cfg.motMargin then s else drive m true true s)) ∧
    (s.cfg.motVariant = .b → s.irq.enBrushed0 = true → s.mot0.powerSet = true → s.mot1.powerSet = true →
      exec .motOvf s = .next (on .m1 (on .m0 s)))

/-- ESC.ASSERT (R205) and ESC.DEASSERT (R206) on the enabled source; the shutdown flag suppresses the assert. -/
def Obligations.EscHandlersDrivePin : Prop :=
  ∀ s : State, s.irq.enEsc = true →
    (s.esc.escshutSet = true → s.esc.escshut = false → exec .escAssert s = .next { s with
      esc := { s.esc with pinesc := true, pinescSet := true }, pinlog := s.pinlog ++ [.esc true] }) ∧
    (s.esc.escshutSet = true → s.esc.escshut = true → exec .escAssert s = .next s) ∧
    (s.esc.escshutSet = false → exec .escAssert s = .refused (.unspecifiedField .escshut)) ∧
    exec .escDeassert s = .next { s with
      esc := { s.esc with pinesc := false, pinescSet := true }, pinlog := s.pinlog ++ [.esc false] }

/-- `60_exceptions.md` R278 for the timer sources and the display tick: an event of a disabled source is held, a
second occurrence of the same one is lost, and nothing else changes. -/
def Obligations.DisabledTimersHoldEvents : Prop :=
  (∀ (s : State) (i : Instr) (op : TimerOp) (src : Source),
    (i, op, src) ∈ ([(.motOff .m0, .motOff .m0, .brushed0), (.escAssert, .escAssert, .esc),
      (.escDeassert, .escDeassert, .esc)] ++
      (match s.cfg.motVariant with
      | .a => [(.motOn .m0, .motOn .m0, .brushed0), (.motOn .m1, .motOn .m1, .brushed1),
          (.motOff .m1, .motOff .m1, .brushed1)]
      | .b => [(.motOvf, .motOvf, .brushed0), (.motOff .m1, .motOff .m1, .brushed0)]) :
        List (Instr × TimerOp × Source)) →
    s.irq.en src = false →
    ∃ t, exec i s = .next t ∧ t = { s with irq := t.irq } ∧
      (op ∈ s.irq.pend src → t.irq = s.irq) ∧
      (op ∉ s.irq.pend src → t.irq.pend src = s.irq.pend src ++ [op] ∧
        (∀ other, other ≠ src → t.irq.pend other = s.irq.pend other) ∧
        (∀ other, t.irq.en other = s.irq.en other) ∧
        t.irq.pendSampler = s.irq.pendSampler ∧ t.irq.pendDisplay = s.irq.pendDisplay)) ∧
  (∀ s : State, s.irq.enDisplay = false →
    exec .schDtick s = .next { s with irq := { s.irq with pendDisplay := true } })

/-- TMR.TICK (R210): the counter advances modulo its period and each event whose compare matches falls due, in the
script's order of R211; the tick completes whenever the values its handlers read are specified. -/
def Obligations.TimerTickMakesDue : Prop :=
  (∀ s : State, s.cfg.Valid → s.esc.escshutSet = true →
    s.mot0.powerSet = true → s.mot1.powerSet = true →
    (∃ t, exec (.tmrTick 0#2) s = .next t) ∧ (∃ t, exec (.tmrTick 2#2) s = .next t) ∧
    (s.cfg.motVariant = .a → ∃ t, exec (.tmrTick 1#2) s = .next t)) ∧
  (∀ (s u : State) (n : Nat), n = (s.tmr.esccnt.toNat + 1) % s.cfg.escFrame →
    u = { s with tmr := { s.tmr with esccnt := BitVec.ofNat 16 n } } →
    exec (.tmrTick 2#2) s =
      runOps ((if n = 0 then [.escAssert] else []) ++
        (if s.esc.escwidthSet = true ∧ n = s.esc.escwidth.toNat then [.escDeassert] else [])) u) ∧
  (∀ (s u : State) (n : Nat), s.cfg.motVariant = .b → n = (s.tmr.tcnt0.toNat + 1) % 256 →
    u = { s with tmr := { s.tmr with tcnt0 := BitVec.ofNat 16 n } } →
    exec (.tmrTick 0#2) s =
      runOps ((if n = 0 then [.motOvf] else []) ++
        (if s.mot0.offthrSet = true ∧ n = s.mot0.offthr.toNat then [.motOff .m0] else []) ++
        (if s.mot1.offthrSet = true ∧ n = s.mot1.offthr.toNat then [.motOff .m1] else [])) u) ∧
  (∀ (s u : State) (n : Nat) (m : MotorId) (k : BitVec 2), s.cfg.motVariant = .a →
    (m, k) ∈ [(MotorId.m0, 0#2), (.m1, 1#2)] → n = ((s.tmr.tcnt m).toNat + 1) % s.cfg.motTopA →
    u = { s with tmr := s.tmr.setTcnt m (BitVec.ofNat 16 n) } →
    exec (.tmrTick k) s =
      runOps ((if n = 0 then [.motOn m] else []) ++
        (if (s.motor m).offthrSet = true ∧ n = (s.motor m).offthr.toNat then [.motOff m] else [])) u)

/-- R213 and R214: with power 0 braked pins stay braked, with power 255 (or -255) driven pins stay driven, whatever
operation runs. -/
def Obligations.ExtremePowersNeverToggle : Prop :=
  ∀ (i : Instr) (s t : State) (m : MotorId), s.cfg.Valid → exec i s = .next t →
    ((s.motor m).power.toInt = 0 → (s.motor m).pinA = true → (s.motor m).pinB = true →
      (t.motor m).pinA = true ∧ (t.motor m).pinB = true) ∧
    ((s.motor m).power.toInt = 255 → (s.motor m).pinA = true → (s.motor m).pinB = false →
      (t.motor m).pinA = true ∧ (t.motor m).pinB = false) ∧
    ((s.motor m).power.toInt = -255 → (s.motor m).pinA = false → (s.motor m).pinB = true →
      (t.motor m).pinA = false ∧ (t.motor m).pinB = true)

/-! ### OrientationFilter, scheduler, interrupts -/

/-- ORI.UPDATE (R231 to R233): the sample words, the downness, the sign and the hysteresis; nothing outside the filter
changes. -/
def Obligations.OriUpdateFilters : Prop :=
  ∀ (s : State) (xl xh yl yh zl zh : Byte) (d : Int) (r : Sign) (n : Nat), s.cfg.Valid → s.blocked = .none →
    d = ((wordOf xl xh).toInt * s.cfg.oriRefX + (wordOf yl yh).toInt * s.cfg.oriRefY +
      (wordOf zl zh).toInt * s.cfg.oriRefZ).tdiv (16 * s.cfg.oriDotDiv) →
    r.val = (if d ≤ -2 then -1 else if 2 ≤ d then 1 else 0) →
    n = (if r = s.ori.oriraw then min (s.ori.oricnt + 1) (s.cfg.oriTimeout - 1) else 0) →
    exec (.oriUpdate xl xh yl yh zl zh) s = .next { s with ori := {
      sampleX := wordOf xl xh, sampleY := wordOf yl yh, sampleZ := wordOf zl zh, sampleSet := true
      downness := d, downnessSet := true, oriraw := r
      orifilt := if s.cfg.oriTimeout - 1 ≤ n then r else s.ori.orifilt
      oricnt := n } }

/-- R238: from a state whose instantaneous sign differs from `r`, `ORI_TIMEOUT` or more updates with sign `r` make the
filtered sign `r`; `ORI_TIMEOUT - 1` of them and then one with another sign leave it as it was and zero the
counter. -/
def Obligations.SignHeldForTimeoutFlips : Prop :=
  ∀ (s : State) (r : Sign) (us : List Instr) (sign : Instr → Option Sign),
    (∀ xl xh yl yh zl zh, sign (.oriUpdate xl xh yl yh zl zh) =
      some (rawSign (downnessOf s.cfg (wordOf xl xh).toInt (wordOf yl yh).toInt (wordOf zl zh).toInt))) →
    s.cfg.Valid → s.blocked = .none → s.ori.oriraw ≠ r →
    (∀ u ∈ us, (∃ xl xh yl yh zl zh, u = .oriUpdate xl xh yl yh zl zh) ∧ sign u = some r) →
    (s.cfg.oriTimeout ≤ us.length → ∃ t, runOps us s = .next t ∧ t.ori.orifilt = r) ∧
    (us.length + 1 = s.cfg.oriTimeout → 1 ≤ us.length → ∀ xl xh yl yh zl zh,
      sign (.oriUpdate xl xh yl yh zl zh) ≠ some r →
      ∃ t, runOps (us ++ [.oriUpdate xl xh yl yh zl zh]) s = .next t ∧
        t.ori.oricnt = 0 ∧ t.ori.orifilt = s.ori.orifilt)

/-- SCH.DTICK (R251) on the enabled source, and SCH.TAKE (R252) in and outside its guard. -/
def Obligations.TickCountersCountAndYield : Prop :=
  (∀ s : State, s.irq.enDisplay = true →
    ∃ n m : Word16, n.toNat = min (s.tickn.toNat + 1) 65535 ∧ m.toNat = min (s.tickm.toNat + 1) 65535 ∧
      exec .schDtick s = .next { s with tickn := n, tickm := m }) ∧
  (∀ s : State, s.blocked = .none → s.irq.enDisplay = false →
    (s.cfg.schN ≤ s.tickn.toNat →
      exec (.schTake .n) s = .next { s with tickn := 0#16, results := s.results ++ [.taken true] }) ∧
    (s.tickn.toNat < s.cfg.schN →
      exec (.schTake .n) s = .next { s with results := s.results ++ [.taken false] }) ∧
    (s.cfg.schM ≤ s.tickm.toNat →
      exec (.schTake .m) s = .next { s with tickm := 0#16, results := s.results ++ [.taken true] }) ∧
    (s.tickm.toNat < s.cfg.schM →
      exec (.schTake .m) s = .next { s with results := s.results ++ [.taken false] })) ∧
  (∀ (s : State) (k : TickCtr), s.blocked = .none → s.irq.enDisplay = true →
    exec (.schTake k) s = .refused .unguardedTake)

/-- IRQ.DISABLE (R281) and IRQ.ENABLE (R282): the enable bit, and the held events run as part of the enable: the handler
of a listed event as if it arrived on the enabled source, the re-arm of an unexpected status code (its request standing
over is the model's reading, log 10), a sampler tick with the levels of the latest PD.TICK word (`60_exceptions.md`
R278), a display tick, and the held operations of a timer source, first to last, each as it runs on its enabled
source. -/
def Obligations.InterruptControl : Prop :=
  ∀ (s : State) (k : BitVec 3) (src : Source), s.blocked = .none →
    ((k, src) ∈ [(0#3, Source.bus), (1#3, .sampler), (2#3, .brushed0), (4#3, .esc), (5#3, .display)] ∨
      (k, src) = (3#3, .brushed1) ∧ s.cfg.motVariant = .a) →
    (∃ q : Irq, exec (.irqDisable k) s = .next { s with irq := q } ∧ q.en src = false ∧
      (∀ other, other ≠ src → q.en other = s.irq.en other) ∧ (∀ other, q.pend other = s.irq.pend other) ∧
      q.pendSampler = s.irq.pendSampler ∧ q.pendDisplay = s.irq.pendDisplay) ∧
    (∀ u : State, u = { s with irq := s.irq.setEn src true } →
      (src = .bus → s.eng.evt = none → exec (.irqEnable k) s = .next u) ∧
      (src = .bus → ∀ st, s.eng.evt = some ⟨st, none⟩ → st &&& 0xF8#8 ∉ listedStatus →
        exec (.irqEnable k) s = .next { u with eng := { u.eng with
          req := s.eng.standby, standby := .none, evt := none
          busctl := if u.bus.ackarm then 0xC5#8 else 0x85#8 } }) ∧
      (src = .bus → ∀ (v : State) (i : Instr), isListedEvent i = true → v.irq.enBus = false →
        exec i v = .next s →
        exec (.irqEnable k) s = exec i { v with irq := v.irq.setEn .bus true }) ∧
      (src = .sampler → s.irq.pendSampler = false → exec (.irqEnable k) s = .next u) ∧
      (src = .sampler → s.irq.pendSampler = true → s.cfg.cmdSource = .pulseDecoded →
        exec (.irqEnable k) s = exec (.pdTick s.pd.lines) { u with irq := { u.irq with pendSampler := false } }) ∧
      (src = .display → s.irq.pendDisplay = false → exec (.irqEnable k) s = .next u) ∧
      (src = .display → s.irq.pendDisplay = true →
        exec (.irqEnable k) s = exec .schDtick { u with irq := { u.irq with pendDisplay := false } }) ∧
      (src = .brushed0 ∨ src = .brushed1 ∨ src = .esc → s.irq.pend src = [] →
        exec (.irqEnable k) s = .next u) ∧
      (src = .brushed0 ∨ src = .brushed1 ∨ src = .esc → PendInv s →
        exec (.irqEnable k) s = andThen (runOps ((s.irq.pend src).map TimerOp.instr) u) fun v =>
          .next { v with irq := v.irq.setPend src [] }) ∧
      (src = .brushed0 ∨ src = .brushed1 ∨ src = .esc → PendInv s →
        s.mot0.powerSet = true → s.mot1.powerSet = true → s.esc.escshutSet = true →
        ∃ t, exec (.irqEnable k) s = .next t ∧
          t = { s with mot0 := t.mot0, mot1 := t.mot1, esc := t.esc, pinlog := t.pinlog, irq := t.irq } ∧
          (∀ m, t.motor m = { s.motor m with
            pinA := (t.motor m).pinA, pinB := (t.motor m).pinB, pinsSet := (t.motor m).pinsSet }) ∧
          t.esc = { s.esc with pinesc := t.esc.pinesc, pinescSet := t.esc.pinescSet } ∧
          t.irq.pend src = [] ∧ t.irq.en src = true ∧
          (∀ other, other ≠ src → t.irq.pend other = s.irq.pend other ∧ t.irq.en other = s.irq.en other) ∧
          t.irq.pendSampler = s.irq.pendSampler ∧ t.irq.pendDisplay = s.irq.pendDisplay))

/-! ### Transactions -/

/-- R155 and R156: a send of 1 to 16 bytes to a peripheral that acknowledges everything returns true, puts exactly the
address and the payload on the wires and leaves the bus idle; one whose address is not acknowledged returns false and
transmits nothing beyond the address. -/
def Obligations.SendTransactions : Prop :=
  ∀ (s : State) (p : List Byte) (a : Byte), 1 ≤ p.length → p.length ≤ 16 →
    a = BitVec.ofNat 8 (2 * s.cfg.devAddr.toNat) → s.blocked = .none → s.bus.busy = false →
    s.bus.link = .idle → s.bus.busdivSet = true → s.eng.owned = false → s.irq.enBus = true →
    (∃ t, runOps (opsSend p) s = .next t ∧ t.results = s.results ++ [.sent true] ∧
      t.buslog = s.buslog ++ [.s, .byte a false] ++ p.map (.byte · false) ++ [.p] ∧
      t.bus.link = .idle ∧ t.bus.busy = false ∧ t.blocked = .none ∧ t.eng.owned = false) ∧
    (∃ t, runOps (opsSendRefused p) s = .next t ∧ t.results = s.results ++ [.sent false] ∧
      t.buslog = s.buslog ++ [.s, .byte a true, .p] ∧
      t.bus.link = .idle ∧ t.bus.busy = false ∧ t.blocked = .none)

/-- R158: a receive of `L > 1` bytes acknowledges bytes 1 to `L - 1`, withholds the acknowledge on byte `L`, and
returns exactly the bytes supplied, in order; and the same of a receive of one byte, whose only byte is the last. -/
def Obligations.ReceiveReturnsBytes : Prop :=
  ∀ (s : State) (d : List Byte) (last a : Byte), d.length ≤ 15 →
    a = BitVec.ofNat 8 (2 * s.cfg.devAddr.toNat + 1) → s.blocked = .none → s.bus.busy = false →
    s.bus.link = .idle → s.bus.busdivSet = true → s.eng.owned = false → s.irq.enBus = true →
    ∃ t, runOps (opsRecv d last) s = .next t ∧
      t.results = s.results ++ [.received (some (d ++ [last]))] ∧
      t.buslog = s.buslog ++ [.s, .byte a false] ++ d.map (.byte · false) ++ [.byte last true, .p] ∧
      t.bus.link = .idle ∧ t.bus.busy = false ∧ t.blocked = .none ∧ t.eng.owned = false

/-- SCH.CMD with decoded inputs (`44_scheduler.md` R255, R256, R264): each differential pair becomes one signed power,
negated exactly when the filtered sign is -1; the throttle is quantised; the shutdown condition is copied; the
thresholds are recomputed. -/
def Obligations.CommandsFollowDutyAndSign : Prop :=
  ∀ s : State, s.cfg.Valid → s.cfg.cmdSource = .pulseDecoded → s.blocked = .none → PendInv s →
    s.irq.pendBrushed0 = [] → s.irq.pendBrushed1 = [] →
    (∀ id, (s.pd.chan id).dutySet = true) → s.pd.shutcondSet = true →
    ∃ t, runOps (opsCmd s) s = .next t ∧
      (s.ori.orifilt.val ≠ -1 →
        t.mot0.power.toInt = (s.pd.c0.duty.toNat : Int) - s.pd.c1.duty.toNat ∧
        t.mot1.power.toInt = (s.pd.c2.duty.toNat : Int) - s.pd.c3.duty.toNat) ∧
      (s.ori.orifilt.val = -1 →
        t.mot0.power.toInt = (s.pd.c1.duty.toNat : Int) - s.pd.c0.duty.toNat ∧
        t.mot1.power.toInt = (s.pd.c3.duty.toNat : Int) - s.pd.c2.duty.toNat) ∧
      t.esc.escpower = (if s.pd.c4.duty.toNat < s.cfg.escQLo then s.cfg.escLvl0
        else if s.pd.c4.duty.toNat < s.cfg.escQHi then s.cfg.escLvl1 else s.cfg.escLvl2) ∧
      t.esc.escshut = s.pd.shutcond ∧
      t.mot0.offthr = offThreshold s.cfg t.mot0.power ∧ t.mot1.offthr = offThreshold s.cfg t.mot1.power ∧
      t.pd = s.pd ∧ t.ori = s.ori ∧ t.bus = s.bus

/-! ### Register face and line level -/

/-- `BUSCTL`, `BUSSTAT` and `BUSDATA` as the host reads them (`30_encoding.md` R107 to R109). -/
def Obligations.RegisterReads : Prop :=
  ∀ s : State,
    (∀ k, k < 7 → s.readBusCtl.getLsbD k = s.eng.busctl.getLsbD k) ∧
    (s.readBusCtl.getLsbD 7 = true ↔ s.eng.evt ≠ none) ∧
    (s.eng.evt = none → s.readBusStat = 0xF8#8) ∧
    (∀ e, s.eng.evt = some e → (∀ k, 3 ≤ k → s.readBusStat.getLsbD k = e.status.getLsbD k) ∧
      (∀ k, k < 3 → s.readBusStat.getLsbD k = false) ∧
      (∀ d, e.data = some d → s.readBusData = d))

/-- The line level (`40_bus_driver.md` R162, R163): a byte symbol is 18 samples on which a receiver reads the eight
bits, most significant first, and the acknowledge bit; and the trace of one transaction shows SDA changing under a
high SCL exactly twice, at its start and at its stop. -/
def Obligations.LineTraceReadsBack : Prop :=
  (∀ (b : Byte) (k : Bool), (WireSym.byte b k).samples.length = 18 ∧
    (∀ i, i < 8 → (sampledBits (WireSym.byte b k).samples)[i]? = some (b.getLsbD (7 - i))) ∧
    (sampledBits (WireSym.byte b k).samples)[8]? = some k) ∧
  (∀ bytes : List (Byte × Bool),
    highEdges (lineTrace ([.s] ++ bytes.map (fun x => .byte x.1 x.2) ++ [.p])) = [false, true] ∧
    (lineTrace ([.s] ++ bytes.map (fun x => .byte x.1 x.2) ++ [.p])).length = 3 + 18 * bytes.length + 3)

/-! ### Completion of interrupt control -/

/-- IRQ.DISABLE (R281) and IRQ.ENABLE (R282) complete for every source of the variant while the host is not blocked:
IRQ.DISABLE always, with the source disabled; IRQ.ENABLE when the fields the held handlers read are specified
(`70_reset_and_hazards.md` R302), with the source enabled and nothing of it pending. No listed event is held there
while the host is not blocked (StepKeepsBusInvariant, StepKeepsEngineInvariant), so that case is left to
InterruptControl. -/
def Obligations.InterruptControlCompletes : Prop :=
  ∀ (s : State) (k : BitVec 3) (src : Source), s.blocked = .none →
    ((k, src) ∈ [(0#3, Source.bus), (1#3, .sampler), (2#3, .brushed0), (4#3, .esc), (5#3, .display)] ∨
      (k, src) = (3#3, .brushed1) ∧ s.cfg.motVariant = .a) →
    (∃ t, exec (.irqDisable k) s = .next t ∧ t.irq.en src = false) ∧
    (PendInv s → (∀ e, s.eng.evt = some e → busCodeOf e.status = none) →
      (s.irq.pendSampler = true → s.cfg.cmdSource = .pulseDecoded) →
      s.mot0.powerSet = true → s.mot1.powerSet = true → s.esc.escshutSet = true →
      ∃ t, exec (.irqEnable k) s = .next t ∧ t.irq.en src = true ∧ t.irq.pend src = [] ∧
        (src = .bus → t.eng.evt = none) ∧ (src = .sampler → t.irq.pendSampler = false) ∧
        (src = .display → t.irq.pendDisplay = false))
end

