-- ==== Sys2Proof/Machine/Compare.lean ====
section
/-!
DEFINITION. What is compared at the end of a run (`70_reset_and_hazards.md` R336): the state record with unspecified
fields equal to anything, the result list, the wire log, and the pin trace.
-/

namespace Sys2Proof.Machine

/-- Two values of a field agree: an unspecified one equals anything (R336). -/
def agreeIf {α : Type} [DecidableEq α] (setX setY : Bool) (x y : α) : Bool := !(setX && setY) || decide (x = y)

/-- The bytes of the two buffers agree at every index; an unspecified byte equals anything. -/
def Memory.agrees (m n : Memory) : Bool :=
  (List.range Config.bufCap).all fun a =>
    match m.read? a, n.read? a with
    | some x, some y => decide (x = y)
    | some _, none => true
    | none, some _ => true
    | none, none => true

/-- BusDriver's fields (`10_state.md` R22 to R30). -/
def Bus.agrees (x y : Bus) : Bool :=
  agreeIf x.busdivSet y.busdivSet x.busdiv y.busdiv && decide (x.busy = y.busy) && decide (x.link = y.link) &&
  decide (x.dir = y.dir) && x.buf.agrees y.buf && decide (x.len = y.len) && agreeIf x.curSet y.curSet x.cur y.cur &&
  decide (x.outcome = y.outcome) && decide (x.ackarm = y.ackarm)

/-- The byte-engine interface (`10_state.md` R31). The stored registers of the register face are no fields of the
record (R32). -/
def Engine.agrees (x y : Engine) : Bool :=
  decide (x.openRequest = y.openRequest) && decide (x.evt = y.evt) && decide (x.phase = y.phase) &&
  decide (x.owned = y.owned)

/-- One channel (`10_state.md` R34, R36). -/
def Chan.agrees (x y : Chan) : Bool :=
  decide (x.num = y.num) && decide (x.den = y.den) && agreeIf x.dutySet y.dutySet x.duty y.duty

/-- PulseDecoder's fields (`10_state.md` R34 to R37). -/
def Decoder.agrees (x y : Decoder) : Bool :=
  x.c0.agrees y.c0 && x.c1.agrees y.c1 && x.c2.agrees y.c2 && x.c3.agrees y.c3 && x.c4.agrees y.c4 &&
  agreeIf x.shutcondSet y.shutcondSet x.shutcond y.shutcond

/-- One brushed motor (`10_state.md` R39, R42, R45). Of a power of which one byte was written the whole is unspecified
(`42_motor_driver.md` R197). -/
def Motor.agrees (x y : Motor) : Bool :=
  agreeIf (x.powerLoSet && x.powerHiSet) (y.powerLoSet && y.powerHiSet) x.power y.power &&
  agreeIf x.offthrSet y.offthrSet x.offthr y.offthr &&
  agreeIf x.pinsSet y.pinsSet (x.pinA, x.pinB) (y.pinA, y.pinB)

/-- The brushless channel (`10_state.md` R40, R41, R43, R45). -/
def Esc.agrees (x y : Esc) : Bool :=
  agreeIf x.escpowerSet y.escpowerSet x.escpower y.escpower &&
  agreeIf x.escshutSet y.escshutSet x.escshut y.escshut &&
  agreeIf x.escwidthSet y.escwidthSet x.escwidth y.escwidth &&
  agreeIf x.pinescSet y.pinescSet x.pinesc y.pinesc

/-- OrientationFilter's fields (`10_state.md` R46 to R50). -/
def Ori.agrees (x y : Ori) : Bool :=
  agreeIf x.sampleSet y.sampleSet (x.sampleX, x.sampleY, x.sampleZ) (y.sampleX, y.sampleY, y.sampleZ) &&
  agreeIf x.downnessSet y.downnessSet x.downness y.downness &&
  decide (x.oriraw = y.oriraw) && decide (x.orifilt = y.orifilt) && decide (x.oricnt = y.oricnt)

/-- The state records agree (R336). The parameters, the script and the input levels are no state (`10_state.md` R54). -/
def State.recordAgrees (s t : State) : Bool :=
  s.bus.agrees t.bus && s.eng.agrees t.eng && decide (s.blocked = t.blocked) && s.pd.agrees t.pd &&
  s.mot0.agrees t.mot0 && s.mot1.agrees t.mot1 && s.esc.agrees t.esc && decide (s.tmr = t.tmr) &&
  s.ori.agrees t.ori && decide (s.irq = t.irq) && decide (s.tickn = t.tickn) && decide (s.tickm = t.tickm)

/-- Two end states agree (R336): the record, the results, the wire log and the pin trace. -/
def State.endAgrees (s t : State) : Bool :=
  s.recordAgrees t && decide (s.results = t.results) && decide (s.buslog = t.buslog) && decide (s.pinlog = t.pinlog)

end Sys2Proof.Machine
end

