-- ==== Sys2Proof/Laws/Compare.lean ====
section
/-!
SUPPORT. The comparison at the end of a run (`70_reset_and_hazards.md` R336) takes a state to agree with itself, does
not depend on which state is named first, and looks at no unspecified field.
-/

namespace Sys2Proof.Machine

section
variable {α : Type} [DecidableEq α]

@[simp] theorem agreeIf_refl (p : Bool) (x : α) : agreeIf p p x x = true := by simp [agreeIf]

theorem agreeIf_comm (p q : Bool) (x y : α) : agreeIf p q x y = agreeIf q p y x := by
  simp only [agreeIf, Bool.and_comm, eq_comm]

/-- An unspecified field equals anything. -/
@[simp] theorem agreeIf_unset_left (q : Bool) (x y : α) : agreeIf false q x y = true := by simp [agreeIf]
@[simp] theorem agreeIf_unset_right (p : Bool) (x y : α) : agreeIf p false x y = true := by simp [agreeIf]

/-- A field specified on both sides is compared. -/
@[simp] theorem agreeIf_set (x y : α) : agreeIf true true x y = decide (x = y) := by simp [agreeIf]
end

@[simp] theorem Memory.agrees_refl (m : Memory) : m.agrees m = true := by
  simp only [Memory.agrees, List.all_eq_true]
  intro a _
  cases m.read? a <;> simp

theorem Memory.agrees_comm (m n : Memory) : m.agrees n = n.agrees m := by
  unfold Memory.agrees
  congr 1
  funext a
  cases m.read? a <;> cases n.read? a <;> simp [eq_comm]

/-- A poisoned buffer agrees with every buffer. -/
@[simp] theorem Memory.agrees_poisoned (m : Memory) : m.agrees Memory.poisoned = true := by
  simp only [Memory.agrees, List.all_eq_true]
  intro a _
  cases h : m.read? a <;> rfl

theorem endAgrees_refl (s : State) : s.endAgrees s = true := by
  simp [State.endAgrees, State.recordAgrees, Bus.agrees, Engine.agrees, Decoder.agrees, Chan.agrees, Motor.agrees,
    Esc.agrees, Ori.agrees]

theorem endAgrees_comm (s t : State) : s.endAgrees t = t.endAgrees s := by
  simp only [State.endAgrees, State.recordAgrees, Bus.agrees, Engine.agrees, Decoder.agrees, Chan.agrees,
    Motor.agrees, Esc.agrees, Ori.agrees, agreeIf_comm, Memory.agrees_comm s.bus.buf, eq_comm]

end Sys2Proof.Machine
end

