-- ==== Sys2Proof/Laws/Memory.lean ====
section
/-!
SUPPORT. The transaction buffer: a read after a write, and the canonical form kept by every operation
(`20_memory.md` R60, R85).
-/

namespace Sys2Proof.Machine

/-! Reads after writes. -/

@[simp] theorem Memory.read?_nil (a : Nat) : Memory.read? [] a = none := rfl

theorem Memory.read?_cons (c : Host.Cell) (m : Memory) (a : Nat) :
    Memory.read? (c :: m) a = if c.1 = a then some c.2 else Memory.read? m a := by
  by_cases h : c.1 = a <;> simp [Memory.read?, h]

@[simp] theorem Memory.read?_poisoned (a : Nat) : Memory.poisoned.read? a = none := rfl

/-- A read of the index just written gives the byte written. -/
@[simp] theorem Memory.read?_write_same (m : Memory) (a : Nat) (b : Byte) : (m.write a b).read? a = some b := by
  induction m with
  | nil => simp [Memory.write, Memory.read?_cons]
  | cons c rest ih =>
    unfold Memory.write
    split
    · simp [Memory.read?_cons]
    · split
      · simp [Memory.read?_cons]
      · rw [Memory.read?_cons, if_neg (by omega), ih]

/-- A write leaves every other index as it was. -/
theorem Memory.read?_write_other (m : Memory) {a x : Nat} (b : Byte) (h : x ≠ a) :
    (m.write a b).read? x = m.read? x := by
  induction m with
  | nil => simp [Memory.write, Memory.read?_cons, Ne.symm h]
  | cons c rest ih =>
    unfold Memory.write
    split
    · rw [Memory.read?_cons, if_neg (Ne.symm h)]
    · split
      · next h1 => rw [Memory.read?_cons, if_neg (Ne.symm h), Memory.read?_cons, if_neg (h1 ▸ Ne.symm h)]
      · rw [Memory.read?_cons, ih, ← Memory.read?_cons]

/-- Writing a run of bytes from `a` leaves every index outside it as it was. -/
theorem Memory.read?_writeList_other (bs : List Byte) (m : Memory) {a x : Nat}
    (h : x < a ∨ a + bs.length ≤ x) : (m.writeList a bs).read? x = m.read? x := by
  induction bs generalizing m a with
  | nil => rfl
  | cons b rest ih =>
    have hl : (b :: rest).length = rest.length + 1 := rfl
    rw [Memory.writeList, ih _ (by omega), Memory.read?_write_other _ _ (by omega)]

/-- Reading inside a run of bytes written from `a` gives the byte of the run. -/
theorem Memory.read?_writeList_inside (bs : List Byte) (m : Memory) (a k : Nat) (h : k < bs.length) :
    (m.writeList a bs).read? (a + k) = some bs[k] := by
  induction bs generalizing m a k with
  | nil => exact absurd h (Nat.not_lt_zero _)
  | cons b rest ih =>
    rw [Memory.writeList]
    cases k with
    | zero => rw [Memory.read?_writeList_other _ _ (by omega)]; simp
    | succ k => rw [show a + (k + 1) = a + 1 + k by omega, ih _ _ _ (by simpa using h)]; rfl

/-! The canonical form. -/

theorem Memory.wf_poisoned : Memory.poisoned.wf := ⟨List.Pairwise.nil, fun _ h => absurd h List.not_mem_nil⟩

theorem Memory.wf_reset : State.reset.bus.buf.wf := Memory.wf_poisoned

theorem Memory.mem_write {m : Memory} {a : Nat} {b : Byte} {c : Host.Cell} (h : c ∈ m.write a b) :
    c = (a, b) ∨ c ∈ m := by
  induction m with
  | nil => simpa [Memory.write] using h
  | cons d rest ih =>
    unfold Memory.write at h
    split at h
    · simpa using h
    · split at h
      · rcases List.mem_cons.mp h with h | h
        · exact .inl h
        · exact .inr (List.mem_cons_of_mem _ h)
      · rcases List.mem_cons.mp h with h | h
        · exact .inr (h ▸ List.mem_cons_self)
        · exact (ih h).imp_right (List.mem_cons_of_mem _)

theorem Memory.write_rising {m : Memory} (a : Nat) (b : Byte) (h : m.Pairwise (fun x y => x.1 < y.1)) :
    (m.write a b).Pairwise (fun x y => x.1 < y.1) := by
  induction m with
  | nil => simp [Memory.write]
  | cons d rest ih =>
    have hd := List.pairwise_cons.mp h
    unfold Memory.write
    split
    · next hlt =>
      refine List.pairwise_cons.mpr ⟨fun x hx => ?_, h⟩
      rcases List.mem_cons.mp hx with rfl | hx
      · exact hlt
      · exact Nat.lt_trans hlt (hd.1 x hx)
    · split
      · next heq => exact List.pairwise_cons.mpr ⟨fun x hx => heq ▸ hd.1 x hx, hd.2⟩
      · next hge hne =>
        refine List.pairwise_cons.mpr ⟨fun x hx => ?_, ih hd.2⟩
        rcases Memory.mem_write hx with rfl | hx
        · exact Nat.lt_of_le_of_ne (Nat.le_of_not_lt hge) (Ne.symm hne)
        · exact hd.1 x hx

/-- A write below the capacity keeps the canonical form. -/
theorem Memory.wf_write {m : Memory} {a : Nat} (b : Byte) (h : m.wf) (ha : a < Config.bufCap) : (m.write a b).wf :=
  ⟨Memory.write_rising a b h.1, fun c hc => (Memory.mem_write hc).elim (fun e => e ▸ ha) (h.2 c)⟩

/-- A run of writes below the capacity keeps the canonical form. -/
theorem Memory.wf_writeList (bs : List Byte) {m : Memory} {a : Nat} (h : m.wf)
    (ha : a + bs.length ≤ Config.bufCap) : (m.writeList a bs).wf := by
  induction bs generalizing m a with
  | nil => exact h
  | cons b rest ih =>
    have hl : (b :: rest).length = rest.length + 1 := rfl
    exact ih (Memory.wf_write b h (by omega)) (by omega)

/-! The checked accesses. -/

/-- A checked read that answers: the index is in the buffer and its byte is specified. -/
theorem bufRead_ok {m : Memory} {a : Nat} {b : Byte} (h : bufRead m a = .ok b) :
    a < Config.bufCap ∧ m.read? a = some b := by
  unfold bufRead at h
  split at h
  · split at h
    · next hr => exact ⟨‹_›, by rw [hr]; simpa using h⟩
    · cases h
  · cases h

/-- A specified byte of the buffer can be read. -/
theorem bufRead_of_some {m : Memory} {a : Nat} {b : Byte} (ha : a < Config.bufCap) (h : m.read? a = some b) :
    bufRead m a = .ok b := by simp [bufRead, ha, h]

/-- A checked write that answers: the index is in the buffer. -/
theorem bufWrite_ok {m m' : Memory} {a : Nat} {b : Byte} (h : bufWrite m a b = .ok m') :
    a < Config.bufCap ∧ m' = m.write a b := by
  unfold bufWrite at h
  split at h
  · exact ⟨‹_›, by simpa using h.symm⟩
  · cases h

/-- A write inside the buffer answers. -/
theorem bufWrite_of_lt {m : Memory} {a : Nat} (b : Byte) (ha : a < Config.bufCap) :
    bufWrite m a b = .ok (m.write a b) := by simp [bufWrite, ha]

/-- A run of specified bytes inside the buffer can be read. -/
theorem bufReadList_of_some {m : Memory} (bs : List Byte) (a : Nat) (ha : a + bs.length ≤ Config.bufCap)
    (h : ∀ (k : Nat) (hk : k < bs.length), m.read? (a + k) = some bs[k]) :
    bufReadList m a bs.length = .ok bs := by
  induction bs generalizing a with
  | nil => rfl
  | cons b rest ih =>
    have hl : (b :: rest).length = rest.length + 1 := rfl
    have h0 : bufRead m a = .ok b := bufRead_of_some (by omega) (h 0 (by omega))
    have hr : bufReadList m (a + 1) rest.length = .ok rest := ih (a + 1) (by omega) fun k hk => by
      have := h (k + 1) (by omega)
      rwa [show a + (k + 1) = a + 1 + k by omega] at this
    simp [bufReadList, h0, hr]

end Sys2Proof.Machine
end

