-- ==== Sys2Proof/Laws/State.lean ====
section
/-!
SUPPORT. What each update of the state leaves in each field: one lemma per field and update, so that later proofs
unfold no record update.
-/

namespace Sys2Proof.Machine

variable (s : State)

/-! A value returned to the host. -/

@[simp] theorem giveResult_cfg (r : HostResult) : (s.giveResult r).cfg = s.cfg := rfl
@[simp] theorem giveResult_bus (r : HostResult) : (s.giveResult r).bus = s.bus := rfl
@[simp] theorem giveResult_eng (r : HostResult) : (s.giveResult r).eng = s.eng := rfl
@[simp] theorem giveResult_blocked (r : HostResult) : (s.giveResult r).blocked = s.blocked := rfl
@[simp] theorem giveResult_pd (r : HostResult) : (s.giveResult r).pd = s.pd := rfl
@[simp] theorem giveResult_mot0 (r : HostResult) : (s.giveResult r).mot0 = s.mot0 := rfl
@[simp] theorem giveResult_mot1 (r : HostResult) : (s.giveResult r).mot1 = s.mot1 := rfl
@[simp] theorem giveResult_esc (r : HostResult) : (s.giveResult r).esc = s.esc := rfl
@[simp] theorem giveResult_tmr (r : HostResult) : (s.giveResult r).tmr = s.tmr := rfl
@[simp] theorem giveResult_ori (r : HostResult) : (s.giveResult r).ori = s.ori := rfl
@[simp] theorem giveResult_irq (r : HostResult) : (s.giveResult r).irq = s.irq := rfl
@[simp] theorem giveResult_tickn (r : HostResult) : (s.giveResult r).tickn = s.tickn := rfl
@[simp] theorem giveResult_tickm (r : HostResult) : (s.giveResult r).tickm = s.tickm := rfl
@[simp] theorem giveResult_buslog (r : HostResult) : (s.giveResult r).buslog = s.buslog := rfl
@[simp] theorem giveResult_pinlog (r : HostResult) : (s.giveResult r).pinlog = s.pinlog := rfl
@[simp] theorem giveResult_script (r : HostResult) : (s.giveResult r).script = s.script := rfl
@[simp] theorem giveResult_spos (r : HostResult) : (s.giveResult r).spos = s.spos := rfl
@[simp] theorem giveResult_results (r : HostResult) : (s.giveResult r).results = s.results ++ [r] := rfl

/-! Moving past an operation's bytes. -/

@[simp] theorem advance_cfg (n : Nat) (rest : List Byte) : (s.advance n rest).cfg = s.cfg := rfl
@[simp] theorem advance_bus (n : Nat) (rest : List Byte) : (s.advance n rest).bus = s.bus := rfl
@[simp] theorem advance_eng (n : Nat) (rest : List Byte) : (s.advance n rest).eng = s.eng := rfl
@[simp] theorem advance_blocked (n : Nat) (rest : List Byte) : (s.advance n rest).blocked = s.blocked := rfl
@[simp] theorem advance_pd (n : Nat) (rest : List Byte) : (s.advance n rest).pd = s.pd := rfl
@[simp] theorem advance_mot0 (n : Nat) (rest : List Byte) : (s.advance n rest).mot0 = s.mot0 := rfl
@[simp] theorem advance_mot1 (n : Nat) (rest : List Byte) : (s.advance n rest).mot1 = s.mot1 := rfl
@[simp] theorem advance_esc (n : Nat) (rest : List Byte) : (s.advance n rest).esc = s.esc := rfl
@[simp] theorem advance_tmr (n : Nat) (rest : List Byte) : (s.advance n rest).tmr = s.tmr := rfl
@[simp] theorem advance_ori (n : Nat) (rest : List Byte) : (s.advance n rest).ori = s.ori := rfl
@[simp] theorem advance_irq (n : Nat) (rest : List Byte) : (s.advance n rest).irq = s.irq := rfl
@[simp] theorem advance_tickn (n : Nat) (rest : List Byte) : (s.advance n rest).tickn = s.tickn := rfl
@[simp] theorem advance_tickm (n : Nat) (rest : List Byte) : (s.advance n rest).tickm = s.tickm := rfl
@[simp] theorem advance_buslog (n : Nat) (rest : List Byte) : (s.advance n rest).buslog = s.buslog := rfl
@[simp] theorem advance_pinlog (n : Nat) (rest : List Byte) : (s.advance n rest).pinlog = s.pinlog := rfl
@[simp] theorem advance_results (n : Nat) (rest : List Byte) : (s.advance n rest).results = s.results := rfl
@[simp] theorem advance_script (n : Nat) (rest : List Byte) : (s.advance n rest).script = rest := rfl
@[simp] theorem advance_spos (n : Nat) (rest : List Byte) : (s.advance n rest).spos = s.spos + n := rfl

/-! Loading a script. -/

@[simp] theorem loadBytes_cfg (bs : List Byte) : (s.loadBytes bs).cfg = s.cfg := rfl
@[simp] theorem loadBytes_bus (bs : List Byte) : (s.loadBytes bs).bus = s.bus := rfl
@[simp] theorem loadBytes_eng (bs : List Byte) : (s.loadBytes bs).eng = s.eng := rfl
@[simp] theorem loadBytes_blocked (bs : List Byte) : (s.loadBytes bs).blocked = s.blocked := rfl
@[simp] theorem loadBytes_pd (bs : List Byte) : (s.loadBytes bs).pd = s.pd := rfl
@[simp] theorem loadBytes_mot0 (bs : List Byte) : (s.loadBytes bs).mot0 = s.mot0 := rfl
@[simp] theorem loadBytes_mot1 (bs : List Byte) : (s.loadBytes bs).mot1 = s.mot1 := rfl
@[simp] theorem loadBytes_esc (bs : List Byte) : (s.loadBytes bs).esc = s.esc := rfl
@[simp] theorem loadBytes_tmr (bs : List Byte) : (s.loadBytes bs).tmr = s.tmr := rfl
@[simp] theorem loadBytes_ori (bs : List Byte) : (s.loadBytes bs).ori = s.ori := rfl
@[simp] theorem loadBytes_irq (bs : List Byte) : (s.loadBytes bs).irq = s.irq := rfl
@[simp] theorem loadBytes_tickn (bs : List Byte) : (s.loadBytes bs).tickn = s.tickn := rfl
@[simp] theorem loadBytes_tickm (bs : List Byte) : (s.loadBytes bs).tickm = s.tickm := rfl
@[simp] theorem loadBytes_buslog (bs : List Byte) : (s.loadBytes bs).buslog = s.buslog := rfl
@[simp] theorem loadBytes_pinlog (bs : List Byte) : (s.loadBytes bs).pinlog = s.pinlog := rfl
@[simp] theorem loadBytes_results (bs : List Byte) : (s.loadBytes bs).results = s.results := rfl
@[simp] theorem loadBytes_spos (bs : List Byte) : (s.loadBytes bs).spos = s.spos := rfl
@[simp] theorem loadBytes_script (bs : List Byte) : (s.loadBytes bs).script = bs ++ s.script.drop bs.length := rfl

/-! Handing an action to the byte engine. -/

@[simp] theorem act_cfg (a : Action) : (act a s).cfg = s.cfg := rfl
@[simp] theorem act_bus (a : Action) : (act a s).bus = s.bus := rfl
@[simp] theorem act_blocked (a : Action) : (act a s).blocked = s.blocked := rfl
@[simp] theorem act_pd (a : Action) : (act a s).pd = s.pd := rfl
@[simp] theorem act_mot0 (a : Action) : (act a s).mot0 = s.mot0 := rfl
@[simp] theorem act_mot1 (a : Action) : (act a s).mot1 = s.mot1 := rfl
@[simp] theorem act_esc (a : Action) : (act a s).esc = s.esc := rfl
@[simp] theorem act_tmr (a : Action) : (act a s).tmr = s.tmr := rfl
@[simp] theorem act_ori (a : Action) : (act a s).ori = s.ori := rfl
@[simp] theorem act_irq (a : Action) : (act a s).irq = s.irq := rfl
@[simp] theorem act_tickn (a : Action) : (act a s).tickn = s.tickn := rfl
@[simp] theorem act_tickm (a : Action) : (act a s).tickm = s.tickm := rfl
@[simp] theorem act_buslog (a : Action) : (act a s).buslog = s.buslog := rfl
@[simp] theorem act_pinlog (a : Action) : (act a s).pinlog = s.pinlog := rfl
@[simp] theorem act_results (a : Action) : (act a s).results = s.results := rfl
@[simp] theorem act_script (a : Action) : (act a s).script = s.script := rfl
@[simp] theorem act_spos (a : Action) : (act a s).spos = s.spos := rfl
@[simp] theorem act_req (a : Action) : (act a s).eng.req = a.request s.eng.req := rfl
@[simp] theorem act_evt (a : Action) : (act a s).eng.evt = none := rfl
@[simp] theorem act_phase (a : Action) : (act a s).eng.phase = s.eng.phase := rfl
@[simp] theorem act_owned (a : Action) : (act a s).eng.owned = s.eng.owned := rfl
@[simp] theorem act_standby (a : Action) : (act a s).eng.standby = s.eng.standby := rfl
@[simp] theorem act_busctl (a : Action) : (act a s).eng.busctl = a.ctl s.bus.ackarm := rfl
@[simp] theorem act_busdata (a : Action) : (act a s).eng.busdata = a.data s.eng.busdata := rfl

/-! The success step. -/

@[simp] theorem complete_cfg : (complete s).cfg = s.cfg := rfl
@[simp] theorem complete_blocked : (complete s).blocked = s.blocked := rfl
@[simp] theorem complete_pd : (complete s).pd = s.pd := rfl
@[simp] theorem complete_mot0 : (complete s).mot0 = s.mot0 := rfl
@[simp] theorem complete_mot1 : (complete s).mot1 = s.mot1 := rfl
@[simp] theorem complete_esc : (complete s).esc = s.esc := rfl
@[simp] theorem complete_tmr : (complete s).tmr = s.tmr := rfl
@[simp] theorem complete_ori : (complete s).ori = s.ori := rfl
@[simp] theorem complete_irq : (complete s).irq = s.irq := rfl
@[simp] theorem complete_tickn : (complete s).tickn = s.tickn := rfl
@[simp] theorem complete_tickm : (complete s).tickm = s.tickm := rfl
@[simp] theorem complete_buslog : (complete s).buslog = s.buslog := rfl
@[simp] theorem complete_pinlog : (complete s).pinlog = s.pinlog := rfl
@[simp] theorem complete_results : (complete s).results = s.results := rfl
@[simp] theorem complete_script : (complete s).script = s.script := rfl
@[simp] theorem complete_spos : (complete s).spos = s.spos := rfl
@[simp] theorem complete_req : (complete s).eng.req = .stop := rfl
@[simp] theorem complete_evt : (complete s).eng.evt = none := rfl
@[simp] theorem complete_phase : (complete s).eng.phase = s.eng.phase := rfl
@[simp] theorem complete_owned : (complete s).eng.owned = s.eng.owned := rfl
@[simp] theorem complete_standby : (complete s).eng.standby = s.eng.standby := rfl
@[simp] theorem complete_busdiv : (complete s).bus.busdiv = s.bus.busdiv := rfl
@[simp] theorem complete_busdivSet : (complete s).bus.busdivSet = s.bus.busdivSet := rfl
@[simp] theorem complete_busy : (complete s).bus.busy = false := rfl
@[simp] theorem complete_link : (complete s).bus.link = .stopPending := rfl
@[simp] theorem complete_dir : (complete s).bus.dir = s.bus.dir := rfl
@[simp] theorem complete_buf : (complete s).bus.buf = s.bus.buf := rfl
@[simp] theorem complete_len : (complete s).bus.len = s.bus.len := rfl
@[simp] theorem complete_cur : (complete s).bus.cur = s.bus.cur := rfl
@[simp] theorem complete_curSet : (complete s).bus.curSet = s.bus.curSet := rfl
@[simp] theorem complete_outcome : (complete s).bus.outcome = .acked := rfl
@[simp] theorem complete_ackarm : (complete s).bus.ackarm = s.bus.ackarm := rfl

/-! The abort step. -/

@[simp] theorem abort_cfg : (abort s).cfg = s.cfg := rfl
@[simp] theorem abort_blocked : (abort s).blocked = s.blocked := rfl
@[simp] theorem abort_pd : (abort s).pd = s.pd := rfl
@[simp] theorem abort_mot0 : (abort s).mot0 = s.mot0 := rfl
@[simp] theorem abort_mot1 : (abort s).mot1 = s.mot1 := rfl
@[simp] theorem abort_esc : (abort s).esc = s.esc := rfl
@[simp] theorem abort_tmr : (abort s).tmr = s.tmr := rfl
@[simp] theorem abort_ori : (abort s).ori = s.ori := rfl
@[simp] theorem abort_irq : (abort s).irq = s.irq := rfl
@[simp] theorem abort_tickn : (abort s).tickn = s.tickn := rfl
@[simp] theorem abort_tickm : (abort s).tickm = s.tickm := rfl
@[simp] theorem abort_buslog : (abort s).buslog = s.buslog := rfl
@[simp] theorem abort_pinlog : (abort s).pinlog = s.pinlog := rfl
@[simp] theorem abort_results : (abort s).results = s.results := rfl
@[simp] theorem abort_script : (abort s).script = s.script := rfl
@[simp] theorem abort_spos : (abort s).spos = s.spos := rfl
@[simp] theorem abort_req : (abort s).eng.req = .stop := rfl
@[simp] theorem abort_evt : (abort s).eng.evt = none := rfl
@[simp] theorem abort_phase : (abort s).eng.phase = s.eng.phase := rfl
@[simp] theorem abort_owned : (abort s).eng.owned = s.eng.owned := rfl
@[simp] theorem abort_standby : (abort s).eng.standby = s.eng.standby := rfl
@[simp] theorem abort_busdiv : (abort s).bus.busdiv = s.bus.busdiv := rfl
@[simp] theorem abort_busdivSet : (abort s).bus.busdivSet = s.bus.busdivSet := rfl
@[simp] theorem abort_busy : (abort s).bus.busy = false := rfl
@[simp] theorem abort_link : (abort s).bus.link = .stopPending := rfl
@[simp] theorem abort_dir : (abort s).bus.dir = s.bus.dir := rfl
@[simp] theorem abort_buf : (abort s).bus.buf = [] := rfl
@[simp] theorem abort_len : (abort s).bus.len = s.bus.len := rfl
@[simp] theorem abort_cur : (abort s).bus.cur = s.bus.cur := rfl
@[simp] theorem abort_curSet : (abort s).bus.curSet = false := rfl
@[simp] theorem abort_outcome : (abort s).bus.outcome = .nackAbort := rfl
@[simp] theorem abort_ackarm : (abort s).bus.ackarm = s.bus.ackarm := rfl

/-! The entry of a call. -/

@[simp] theorem beginTransfer_cfg (d : Dir) (m : Memory) (n : Nat) (b : Blocked) :
    (beginTransfer d m n b s).cfg = s.cfg := rfl
@[simp] theorem beginTransfer_pd (d : Dir) (m : Memory) (n : Nat) (b : Blocked) :
    (beginTransfer d m n b s).pd = s.pd := rfl
@[simp] theorem beginTransfer_mot0 (d : Dir) (m : Memory) (n : Nat) (b : Blocked) :
    (beginTransfer d m n b s).mot0 = s.mot0 := rfl
@[simp] theorem beginTransfer_mot1 (d : Dir) (m : Memory) (n : Nat) (b : Blocked) :
    (beginTransfer d m n b s).mot1 = s.mot1 := rfl
@[simp] theorem beginTransfer_esc (d : Dir) (m : Memory) (n : Nat) (b : Blocked) :
    (beginTransfer d m n b s).esc = s.esc := rfl
@[simp] theorem beginTransfer_tmr (d : Dir) (m : Memory) (n : Nat) (b : Blocked) :
    (beginTransfer d m n b s).tmr = s.tmr := rfl
@[simp] theorem beginTransfer_ori (d : Dir) (m : Memory) (n : Nat) (b : Blocked) :
    (beginTransfer d m n b s).ori = s.ori := rfl
@[simp] theorem beginTransfer_irq (d : Dir) (m : Memory) (n : Nat) (b : Blocked) :
    (beginTransfer d m n b s).irq = s.irq := rfl
@[simp] theorem beginTransfer_tickn (d : Dir) (m : Memory) (n : Nat) (b : Blocked) :
    (beginTransfer d m n b s).tickn = s.tickn := rfl
@[simp] theorem beginTransfer_tickm (d : Dir) (m : Memory) (n : Nat) (b : Blocked) :
    (beginTransfer d m n b s).tickm = s.tickm := rfl
@[simp] theorem beginTransfer_buslog (d : Dir) (m : Memory) (n : Nat) (b : Blocked) :
    (beginTransfer d m n b s).buslog = s.buslog := rfl
@[simp] theorem beginTransfer_pinlog (d : Dir) (m : Memory) (n : Nat) (b : Blocked) :
    (beginTransfer d m n b s).pinlog = s.pinlog := rfl
@[simp] theorem beginTransfer_results (d : Dir) (m : Memory) (n : Nat) (b : Blocked) :
    (beginTransfer d m n b s).results = s.results := rfl
@[simp] theorem beginTransfer_script (d : Dir) (m : Memory) (n : Nat) (b : Blocked) :
    (beginTransfer d m n b s).script = s.script := rfl
@[simp] theorem beginTransfer_spos (d : Dir) (m : Memory) (n : Nat) (b : Blocked) :
    (beginTransfer d m n b s).spos = s.spos := rfl
@[simp] theorem beginTransfer_req (d : Dir) (m : Memory) (n : Nat) (b : Blocked) :
    (beginTransfer d m n b s).eng.req = .start := rfl
@[simp] theorem beginTransfer_evt (d : Dir) (m : Memory) (n : Nat) (b : Blocked) :
    (beginTransfer d m n b s).eng.evt = none := rfl
@[simp] theorem beginTransfer_phase (d : Dir) (m : Memory) (n : Nat) (b : Blocked) :
    (beginTransfer d m n b s).eng.phase = s.eng.phase := rfl
@[simp] theorem beginTransfer_owned (d : Dir) (m : Memory) (n : Nat) (b : Blocked) :
    (beginTransfer d m n b s).eng.owned = s.eng.owned := rfl
@[simp] theorem beginTransfer_standby (d : Dir) (m : Memory) (n : Nat) (b : Blocked) :
    (beginTransfer d m n b s).eng.standby = s.eng.standby := rfl
@[simp] theorem beginTransfer_blocked (d : Dir) (m : Memory) (n : Nat) (b : Blocked) :
    (beginTransfer d m n b s).blocked = b := rfl
@[simp] theorem beginTransfer_busdiv (d : Dir) (m : Memory) (n : Nat) (b : Blocked) :
    (beginTransfer d m n b s).bus.busdiv = s.bus.busdiv := rfl
@[simp] theorem beginTransfer_busdivSet (d : Dir) (m : Memory) (n : Nat) (b : Blocked) :
    (beginTransfer d m n b s).bus.busdivSet = s.bus.busdivSet := rfl
@[simp] theorem beginTransfer_busy (d : Dir) (m : Memory) (n : Nat) (b : Blocked) :
    (beginTransfer d m n b s).bus.busy = true := rfl
@[simp] theorem beginTransfer_link (d : Dir) (m : Memory) (n : Nat) (b : Blocked) :
    (beginTransfer d m n b s).bus.link = s.bus.link := rfl
@[simp] theorem beginTransfer_dir (d : Dir) (m : Memory) (n : Nat) (b : Blocked) :
    (beginTransfer d m n b s).bus.dir = d := rfl
@[simp] theorem beginTransfer_buf (d : Dir) (m : Memory) (n : Nat) (b : Blocked) :
    (beginTransfer d m n b s).bus.buf = m := rfl
@[simp] theorem beginTransfer_len (d : Dir) (m : Memory) (n : Nat) (b : Blocked) :
    (beginTransfer d m n b s).bus.len = BitVec.ofNat 5 n := rfl
@[simp] theorem beginTransfer_cur (d : Dir) (m : Memory) (n : Nat) (b : Blocked) :
    (beginTransfer d m n b s).bus.cur = 0#5 := rfl
@[simp] theorem beginTransfer_curSet (d : Dir) (m : Memory) (n : Nat) (b : Blocked) :
    (beginTransfer d m n b s).bus.curSet = true := rfl
@[simp] theorem beginTransfer_outcome (d : Dir) (m : Memory) (n : Nat) (b : Blocked) :
    (beginTransfer d m n b s).bus.outcome = .pending := rfl
@[simp] theorem beginTransfer_ackarm (d : Dir) (m : Memory) (n : Nat) (b : Blocked) :
    (beginTransfer d m n b s).bus.ackarm = s.bus.ackarm := rfl

/-! Consuming the pending event. -/

@[simp] theorem consumeEvent_cfg : (consumeEvent s).cfg = s.cfg := rfl
@[simp] theorem consumeEvent_bus : (consumeEvent s).bus = s.bus := rfl
@[simp] theorem consumeEvent_blocked : (consumeEvent s).blocked = s.blocked := rfl
@[simp] theorem consumeEvent_pd : (consumeEvent s).pd = s.pd := rfl
@[simp] theorem consumeEvent_mot0 : (consumeEvent s).mot0 = s.mot0 := rfl
@[simp] theorem consumeEvent_mot1 : (consumeEvent s).mot1 = s.mot1 := rfl
@[simp] theorem consumeEvent_esc : (consumeEvent s).esc = s.esc := rfl
@[simp] theorem consumeEvent_tmr : (consumeEvent s).tmr = s.tmr := rfl
@[simp] theorem consumeEvent_ori : (consumeEvent s).ori = s.ori := rfl
@[simp] theorem consumeEvent_irq : (consumeEvent s).irq = s.irq := rfl
@[simp] theorem consumeEvent_tickn : (consumeEvent s).tickn = s.tickn := rfl
@[simp] theorem consumeEvent_tickm : (consumeEvent s).tickm = s.tickm := rfl
@[simp] theorem consumeEvent_buslog : (consumeEvent s).buslog = s.buslog := rfl
@[simp] theorem consumeEvent_pinlog : (consumeEvent s).pinlog = s.pinlog := rfl
@[simp] theorem consumeEvent_results : (consumeEvent s).results = s.results := rfl
@[simp] theorem consumeEvent_script : (consumeEvent s).script = s.script := rfl
@[simp] theorem consumeEvent_spos : (consumeEvent s).spos = s.spos := rfl
@[simp] theorem consumeEvent_evt : (consumeEvent s).eng.evt = none := rfl
@[simp] theorem consumeEvent_req : (consumeEvent s).eng.req = s.eng.req := rfl
@[simp] theorem consumeEvent_phase : (consumeEvent s).eng.phase = s.eng.phase := rfl
@[simp] theorem consumeEvent_owned : (consumeEvent s).eng.owned = s.eng.owned := rfl
@[simp] theorem consumeEvent_standby : (consumeEvent s).eng.standby = s.eng.standby := rfl
@[simp] theorem consumeEvent_busctl : (consumeEvent s).eng.busctl = s.eng.busctl := rfl
@[simp] theorem consumeEvent_busdata : (consumeEvent s).eng.busdata = s.eng.busdata := rfl

/-! The request that stood over. -/

@[simp] theorem resumeRequest_cfg : (resumeRequest s).cfg = s.cfg := rfl
@[simp] theorem resumeRequest_bus : (resumeRequest s).bus = s.bus := rfl
@[simp] theorem resumeRequest_blocked : (resumeRequest s).blocked = s.blocked := rfl
@[simp] theorem resumeRequest_pd : (resumeRequest s).pd = s.pd := rfl
@[simp] theorem resumeRequest_mot0 : (resumeRequest s).mot0 = s.mot0 := rfl
@[simp] theorem resumeRequest_mot1 : (resumeRequest s).mot1 = s.mot1 := rfl
@[simp] theorem resumeRequest_esc : (resumeRequest s).esc = s.esc := rfl
@[simp] theorem resumeRequest_tmr : (resumeRequest s).tmr = s.tmr := rfl
@[simp] theorem resumeRequest_ori : (resumeRequest s).ori = s.ori := rfl
@[simp] theorem resumeRequest_irq : (resumeRequest s).irq = s.irq := rfl
@[simp] theorem resumeRequest_tickn : (resumeRequest s).tickn = s.tickn := rfl
@[simp] theorem resumeRequest_tickm : (resumeRequest s).tickm = s.tickm := rfl
@[simp] theorem resumeRequest_buslog : (resumeRequest s).buslog = s.buslog := rfl
@[simp] theorem resumeRequest_pinlog : (resumeRequest s).pinlog = s.pinlog := rfl
@[simp] theorem resumeRequest_results : (resumeRequest s).results = s.results := rfl
@[simp] theorem resumeRequest_script : (resumeRequest s).script = s.script := rfl
@[simp] theorem resumeRequest_spos : (resumeRequest s).spos = s.spos := rfl
@[simp] theorem resumeRequest_req : (resumeRequest s).eng.req = s.eng.standby := rfl
@[simp] theorem resumeRequest_standby : (resumeRequest s).eng.standby = .none := rfl
@[simp] theorem resumeRequest_evt : (resumeRequest s).eng.evt = s.eng.evt := rfl
@[simp] theorem resumeRequest_phase : (resumeRequest s).eng.phase = s.eng.phase := rfl
@[simp] theorem resumeRequest_owned : (resumeRequest s).eng.owned = s.eng.owned := rfl
@[simp] theorem resumeRequest_busctl : (resumeRequest s).eng.busctl = s.eng.busctl := rfl
@[simp] theorem resumeRequest_busdata : (resumeRequest s).eng.busdata = s.eng.busdata := rfl

/-! Setting `link`. -/

@[simp] theorem setLink_cfg (l : LinkState) : (setLink l s).cfg = s.cfg := rfl
@[simp] theorem setLink_eng (l : LinkState) : (setLink l s).eng = s.eng := rfl
@[simp] theorem setLink_blocked (l : LinkState) : (setLink l s).blocked = s.blocked := rfl
@[simp] theorem setLink_pd (l : LinkState) : (setLink l s).pd = s.pd := rfl
@[simp] theorem setLink_mot0 (l : LinkState) : (setLink l s).mot0 = s.mot0 := rfl
@[simp] theorem setLink_mot1 (l : LinkState) : (setLink l s).mot1 = s.mot1 := rfl
@[simp] theorem setLink_esc (l : LinkState) : (setLink l s).esc = s.esc := rfl
@[simp] theorem setLink_tmr (l : LinkState) : (setLink l s).tmr = s.tmr := rfl
@[simp] theorem setLink_ori (l : LinkState) : (setLink l s).ori = s.ori := rfl
@[simp] theorem setLink_irq (l : LinkState) : (setLink l s).irq = s.irq := rfl
@[simp] theorem setLink_tickn (l : LinkState) : (setLink l s).tickn = s.tickn := rfl
@[simp] theorem setLink_tickm (l : LinkState) : (setLink l s).tickm = s.tickm := rfl
@[simp] theorem setLink_buslog (l : LinkState) : (setLink l s).buslog = s.buslog := rfl
@[simp] theorem setLink_pinlog (l : LinkState) : (setLink l s).pinlog = s.pinlog := rfl
@[simp] theorem setLink_results (l : LinkState) : (setLink l s).results = s.results := rfl
@[simp] theorem setLink_script (l : LinkState) : (setLink l s).script = s.script := rfl
@[simp] theorem setLink_spos (l : LinkState) : (setLink l s).spos = s.spos := rfl
@[simp] theorem setLink_busdiv (l : LinkState) : (setLink l s).bus.busdiv = s.bus.busdiv := rfl
@[simp] theorem setLink_busdivSet (l : LinkState) : (setLink l s).bus.busdivSet = s.bus.busdivSet := rfl
@[simp] theorem setLink_busy (l : LinkState) : (setLink l s).bus.busy = s.bus.busy := rfl
@[simp] theorem setLink_link (l : LinkState) : (setLink l s).bus.link = l := rfl
@[simp] theorem setLink_dir (l : LinkState) : (setLink l s).bus.dir = s.bus.dir := rfl
@[simp] theorem setLink_buf (l : LinkState) : (setLink l s).bus.buf = s.bus.buf := rfl
@[simp] theorem setLink_len (l : LinkState) : (setLink l s).bus.len = s.bus.len := rfl
@[simp] theorem setLink_cur (l : LinkState) : (setLink l s).bus.cur = s.bus.cur := rfl
@[simp] theorem setLink_curSet (l : LinkState) : (setLink l s).bus.curSet = s.bus.curSet := rfl
@[simp] theorem setLink_outcome (l : LinkState) : (setLink l s).bus.outcome = s.bus.outcome := rfl
@[simp] theorem setLink_ackarm (l : LinkState) : (setLink l s).bus.ackarm = s.bus.ackarm := rfl

/-! Arming the receiver for the final byte. -/

@[simp] theorem armLast_cfg : (armLast s).cfg = s.cfg := rfl
@[simp] theorem armLast_blocked : (armLast s).blocked = s.blocked := rfl
@[simp] theorem armLast_pd : (armLast s).pd = s.pd := rfl
@[simp] theorem armLast_mot0 : (armLast s).mot0 = s.mot0 := rfl
@[simp] theorem armLast_mot1 : (armLast s).mot1 = s.mot1 := rfl
@[simp] theorem armLast_esc : (armLast s).esc = s.esc := rfl
@[simp] theorem armLast_tmr : (armLast s).tmr = s.tmr := rfl
@[simp] theorem armLast_ori : (armLast s).ori = s.ori := rfl
@[simp] theorem armLast_irq : (armLast s).irq = s.irq := rfl
@[simp] theorem armLast_tickn : (armLast s).tickn = s.tickn := rfl
@[simp] theorem armLast_tickm : (armLast s).tickm = s.tickm := rfl
@[simp] theorem armLast_buslog : (armLast s).buslog = s.buslog := rfl
@[simp] theorem armLast_pinlog : (armLast s).pinlog = s.pinlog := rfl
@[simp] theorem armLast_results : (armLast s).results = s.results := rfl
@[simp] theorem armLast_script : (armLast s).script = s.script := rfl
@[simp] theorem armLast_spos : (armLast s).spos = s.spos := rfl
@[simp] theorem armLast_req : (armLast s).eng.req = .rx false := rfl
@[simp] theorem armLast_evt : (armLast s).eng.evt = none := rfl
@[simp] theorem armLast_phase : (armLast s).eng.phase = s.eng.phase := rfl
@[simp] theorem armLast_owned : (armLast s).eng.owned = s.eng.owned := rfl
@[simp] theorem armLast_standby : (armLast s).eng.standby = s.eng.standby := rfl
@[simp] theorem armLast_busdiv : (armLast s).bus.busdiv = s.bus.busdiv := rfl
@[simp] theorem armLast_busdivSet : (armLast s).bus.busdivSet = s.bus.busdivSet := rfl
@[simp] theorem armLast_busy : (armLast s).bus.busy = s.bus.busy := rfl
@[simp] theorem armLast_link : (armLast s).bus.link = .receivePhaseLast := rfl
@[simp] theorem armLast_dir : (armLast s).bus.dir = s.bus.dir := rfl
@[simp] theorem armLast_buf : (armLast s).bus.buf = s.bus.buf := rfl
@[simp] theorem armLast_len : (armLast s).bus.len = s.bus.len := rfl
@[simp] theorem armLast_cur : (armLast s).bus.cur = s.bus.cur := rfl
@[simp] theorem armLast_curSet : (armLast s).bus.curSet = s.bus.curSet := rfl
@[simp] theorem armLast_outcome : (armLast s).bus.outcome = s.bus.outcome := rfl
@[simp] theorem armLast_ackarm : (armLast s).bus.ackarm = false := rfl

/-! Replacing a motor's fields. -/

@[simp] theorem setMotor_cfg (m : MotorId) (v : Motor) : (s.setMotor m v).cfg = s.cfg := by cases m <;> rfl
@[simp] theorem setMotor_bus (m : MotorId) (v : Motor) : (s.setMotor m v).bus = s.bus := by cases m <;> rfl
@[simp] theorem setMotor_eng (m : MotorId) (v : Motor) : (s.setMotor m v).eng = s.eng := by cases m <;> rfl
@[simp] theorem setMotor_blocked (m : MotorId) (v : Motor) :
    (s.setMotor m v).blocked = s.blocked := by cases m <;> rfl
@[simp] theorem setMotor_pd (m : MotorId) (v : Motor) : (s.setMotor m v).pd = s.pd := by cases m <;> rfl
@[simp] theorem setMotor_esc (m : MotorId) (v : Motor) : (s.setMotor m v).esc = s.esc := by cases m <;> rfl
@[simp] theorem setMotor_tmr (m : MotorId) (v : Motor) : (s.setMotor m v).tmr = s.tmr := by cases m <;> rfl
@[simp] theorem setMotor_ori (m : MotorId) (v : Motor) : (s.setMotor m v).ori = s.ori := by cases m <;> rfl
@[simp] theorem setMotor_irq (m : MotorId) (v : Motor) : (s.setMotor m v).irq = s.irq := by cases m <;> rfl
@[simp] theorem setMotor_tickn (m : MotorId) (v : Motor) : (s.setMotor m v).tickn = s.tickn := by cases m <;> rfl
@[simp] theorem setMotor_tickm (m : MotorId) (v : Motor) : (s.setMotor m v).tickm = s.tickm := by cases m <;> rfl
@[simp] theorem setMotor_buslog (m : MotorId) (v : Motor) : (s.setMotor m v).buslog = s.buslog := by cases m <;> rfl
@[simp] theorem setMotor_pinlog (m : MotorId) (v : Motor) : (s.setMotor m v).pinlog = s.pinlog := by cases m <;> rfl
@[simp] theorem setMotor_results (m : MotorId) (v : Motor) :
    (s.setMotor m v).results = s.results := by cases m <;> rfl
@[simp] theorem setMotor_script (m : MotorId) (v : Motor) : (s.setMotor m v).script = s.script := by cases m <;> rfl
@[simp] theorem setMotor_spos (m : MotorId) (v : Motor) : (s.setMotor m v).spos = s.spos := by cases m <;> rfl

@[simp] theorem setMotor_motor (m : MotorId) (v : Motor) : (s.setMotor m v).motor m = v := by cases m <;> rfl
@[simp] theorem motor_m0 : s.motor .m0 = s.mot0 := rfl
@[simp] theorem motor_m1 : s.motor .m1 = s.mot1 := rfl
@[simp] theorem setMotor_m0_mot0 (v : Motor) : (s.setMotor .m0 v).mot0 = v := rfl
@[simp] theorem setMotor_m0_mot1 (v : Motor) : (s.setMotor .m0 v).mot1 = s.mot1 := rfl
@[simp] theorem setMotor_m1_mot0 (v : Motor) : (s.setMotor .m1 v).mot0 = s.mot0 := rfl
@[simp] theorem setMotor_m1_mot1 (v : Motor) : (s.setMotor .m1 v).mot1 = v := rfl

theorem setMotor_motor_other {m k : MotorId} (h : k ≠ m) (v : Motor) : (s.setMotor m v).motor k = s.motor k := by
  cases m <;> cases k <;> first | rfl | exact absurd rfl h

/-! Driving a motor's pins. -/

@[simp] theorem driveMotor_cfg (m : MotorId) (a b : Bool) : (driveMotor m a b s).cfg = s.cfg := by cases m <;> rfl
@[simp] theorem driveMotor_bus (m : MotorId) (a b : Bool) : (driveMotor m a b s).bus = s.bus := by cases m <;> rfl
@[simp] theorem driveMotor_eng (m : MotorId) (a b : Bool) : (driveMotor m a b s).eng = s.eng := by cases m <;> rfl
@[simp] theorem driveMotor_blocked (m : MotorId) (a b : Bool) :
    (driveMotor m a b s).blocked = s.blocked := by cases m <;> rfl
@[simp] theorem driveMotor_pd (m : MotorId) (a b : Bool) : (driveMotor m a b s).pd = s.pd := by cases m <;> rfl
@[simp] theorem driveMotor_esc (m : MotorId) (a b : Bool) : (driveMotor m a b s).esc = s.esc := by cases m <;> rfl
@[simp] theorem driveMotor_tmr (m : MotorId) (a b : Bool) : (driveMotor m a b s).tmr = s.tmr := by cases m <;> rfl
@[simp] theorem driveMotor_ori (m : MotorId) (a b : Bool) : (driveMotor m a b s).ori = s.ori := by cases m <;> rfl
@[simp] theorem driveMotor_irq (m : MotorId) (a b : Bool) : (driveMotor m a b s).irq = s.irq := by cases m <;> rfl
@[simp] theorem driveMotor_tickn (m : MotorId) (a b : Bool) :
    (driveMotor m a b s).tickn = s.tickn := by cases m <;> rfl
@[simp] theorem driveMotor_tickm (m : MotorId) (a b : Bool) :
    (driveMotor m a b s).tickm = s.tickm := by cases m <;> rfl
@[simp] theorem driveMotor_buslog (m : MotorId) (a b : Bool) :
    (driveMotor m a b s).buslog = s.buslog := by cases m <;> rfl
@[simp] theorem driveMotor_results (m : MotorId) (a b : Bool) :
    (driveMotor m a b s).results = s.results := by cases m <;> rfl
@[simp] theorem driveMotor_script (m : MotorId) (a b : Bool) :
    (driveMotor m a b s).script = s.script := by cases m <;> rfl
@[simp] theorem driveMotor_spos (m : MotorId) (a b : Bool) : (driveMotor m a b s).spos = s.spos := by cases m <;> rfl
@[simp] theorem driveMotor_pinlog (m : MotorId) (a b : Bool) :
    (driveMotor m a b s).pinlog = s.pinlog ++ [.motor m a b] := by cases m <;> rfl

@[simp] theorem driveMotor_motor (m : MotorId) (a b : Bool) :
    (driveMotor m a b s).motor m = { s.motor m with pinA := a, pinB := b, pinsSet := true } := by cases m <;> rfl

theorem driveMotor_motor_other {m k : MotorId} (h : k ≠ m) (a b : Bool) :
    (driveMotor m a b s).motor k = s.motor k := by
  cases m <;> cases k <;> first | rfl | exact absurd rfl h

@[simp] theorem driveMotor_power (m k : MotorId) (a b : Bool) :
    ((driveMotor m a b s).motor k).power = (s.motor k).power := by cases m <;> cases k <;> rfl
@[simp] theorem driveMotor_powerSet (m k : MotorId) (a b : Bool) :
    ((driveMotor m a b s).motor k).powerSet = (s.motor k).powerSet := by cases m <;> cases k <;> rfl
@[simp] theorem driveMotor_offthr (m k : MotorId) (a b : Bool) :
    ((driveMotor m a b s).motor k).offthr = (s.motor k).offthr := by cases m <;> cases k <;> rfl
@[simp] theorem driveMotor_offthrSet (m k : MotorId) (a b : Bool) :
    ((driveMotor m a b s).motor k).offthrSet = (s.motor k).offthrSet := by cases m <;> cases k <;> rfl

/-! Driving the ESC pin. -/

@[simp] theorem driveEsc_cfg (v : Bool) : (driveEsc v s).cfg = s.cfg := rfl
@[simp] theorem driveEsc_bus (v : Bool) : (driveEsc v s).bus = s.bus := rfl
@[simp] theorem driveEsc_eng (v : Bool) : (driveEsc v s).eng = s.eng := rfl
@[simp] theorem driveEsc_blocked (v : Bool) : (driveEsc v s).blocked = s.blocked := rfl
@[simp] theorem driveEsc_pd (v : Bool) : (driveEsc v s).pd = s.pd := rfl
@[simp] theorem driveEsc_mot0 (v : Bool) : (driveEsc v s).mot0 = s.mot0 := rfl
@[simp] theorem driveEsc_mot1 (v : Bool) : (driveEsc v s).mot1 = s.mot1 := rfl
@[simp] theorem driveEsc_tmr (v : Bool) : (driveEsc v s).tmr = s.tmr := rfl
@[simp] theorem driveEsc_ori (v : Bool) : (driveEsc v s).ori = s.ori := rfl
@[simp] theorem driveEsc_irq (v : Bool) : (driveEsc v s).irq = s.irq := rfl
@[simp] theorem driveEsc_tickn (v : Bool) : (driveEsc v s).tickn = s.tickn := rfl
@[simp] theorem driveEsc_tickm (v : Bool) : (driveEsc v s).tickm = s.tickm := rfl
@[simp] theorem driveEsc_buslog (v : Bool) : (driveEsc v s).buslog = s.buslog := rfl
@[simp] theorem driveEsc_results (v : Bool) : (driveEsc v s).results = s.results := rfl
@[simp] theorem driveEsc_script (v : Bool) : (driveEsc v s).script = s.script := rfl
@[simp] theorem driveEsc_spos (v : Bool) : (driveEsc v s).spos = s.spos := rfl
@[simp] theorem driveEsc_escpower (v : Bool) : (driveEsc v s).esc.escpower = s.esc.escpower := rfl
@[simp] theorem driveEsc_escpowerSet (v : Bool) : (driveEsc v s).esc.escpowerSet = s.esc.escpowerSet := rfl
@[simp] theorem driveEsc_escshut (v : Bool) : (driveEsc v s).esc.escshut = s.esc.escshut := rfl
@[simp] theorem driveEsc_escshutSet (v : Bool) : (driveEsc v s).esc.escshutSet = s.esc.escshutSet := rfl
@[simp] theorem driveEsc_escwidth (v : Bool) : (driveEsc v s).esc.escwidth = s.esc.escwidth := rfl
@[simp] theorem driveEsc_escwidthSet (v : Bool) : (driveEsc v s).esc.escwidthSet = s.esc.escwidthSet := rfl
@[simp] theorem driveEsc_pinesc (v : Bool) : (driveEsc v s).esc.pinesc = v := rfl
@[simp] theorem driveEsc_pinescSet (v : Bool) : (driveEsc v s).esc.pinescSet = true := rfl
@[simp] theorem driveEsc_pinlog (v : Bool) : (driveEsc v s).pinlog = s.pinlog ++ [.esc v] := rfl

/-! Zeroing a tick counter. -/

@[simp] theorem zeroTick_cfg (k : TickCtr) : (s.zeroTick k).cfg = s.cfg := by cases k <;> rfl
@[simp] theorem zeroTick_bus (k : TickCtr) : (s.zeroTick k).bus = s.bus := by cases k <;> rfl
@[simp] theorem zeroTick_eng (k : TickCtr) : (s.zeroTick k).eng = s.eng := by cases k <;> rfl
@[simp] theorem zeroTick_blocked (k : TickCtr) : (s.zeroTick k).blocked = s.blocked := by cases k <;> rfl
@[simp] theorem zeroTick_pd (k : TickCtr) : (s.zeroTick k).pd = s.pd := by cases k <;> rfl
@[simp] theorem zeroTick_mot0 (k : TickCtr) : (s.zeroTick k).mot0 = s.mot0 := by cases k <;> rfl
@[simp] theorem zeroTick_mot1 (k : TickCtr) : (s.zeroTick k).mot1 = s.mot1 := by cases k <;> rfl
@[simp] theorem zeroTick_esc (k : TickCtr) : (s.zeroTick k).esc = s.esc := by cases k <;> rfl
@[simp] theorem zeroTick_tmr (k : TickCtr) : (s.zeroTick k).tmr = s.tmr := by cases k <;> rfl
@[simp] theorem zeroTick_ori (k : TickCtr) : (s.zeroTick k).ori = s.ori := by cases k <;> rfl
@[simp] theorem zeroTick_irq (k : TickCtr) : (s.zeroTick k).irq = s.irq := by cases k <;> rfl
@[simp] theorem zeroTick_buslog (k : TickCtr) : (s.zeroTick k).buslog = s.buslog := by cases k <;> rfl
@[simp] theorem zeroTick_pinlog (k : TickCtr) : (s.zeroTick k).pinlog = s.pinlog := by cases k <;> rfl
@[simp] theorem zeroTick_results (k : TickCtr) : (s.zeroTick k).results = s.results := by cases k <;> rfl
@[simp] theorem zeroTick_script (k : TickCtr) : (s.zeroTick k).script = s.script := by cases k <;> rfl
@[simp] theorem zeroTick_spos (k : TickCtr) : (s.zeroTick k).spos = s.spos := by cases k <;> rfl

@[simp] theorem zeroTick_tick (k : TickCtr) : (s.zeroTick k).tick k = 0#16 := by cases k <;> rfl

/-! The numbered fields of the timers and of the interrupt state. -/

@[simp] theorem setTcnt_tcnt (t : Timers) (m : MotorId) (v : Word16) : (t.setTcnt m v).tcnt m = v := by
  cases m <;> rfl
@[simp] theorem setTcnt_esccnt (t : Timers) (m : MotorId) (v : Word16) : (t.setTcnt m v).esccnt = t.esccnt := by
  cases m <;> rfl

theorem setTcnt_tcnt_other (t : Timers) {m k : MotorId} (h : k ≠ m) (v : Word16) :
    (t.setTcnt m v).tcnt k = t.tcnt k := by
  cases m <;> cases k <;> first | rfl | exact absurd rfl h

variable (q : Irq)

@[simp] theorem setEn_en (src : Source) (v : Bool) : (q.setEn src v).en src = v := by cases src <;> rfl

theorem setEn_en_other {src other : Source} (h : other ≠ src) (v : Bool) :
    (q.setEn src v).en other = q.en other := by
  cases src <;> cases other <;> first | rfl | exact absurd rfl h

@[simp] theorem setEn_pend (src other : Source) (v : Bool) : (q.setEn src v).pend other = q.pend other := by
  cases src <;> cases other <;> rfl
@[simp] theorem setEn_pendSampler (src : Source) (v : Bool) :
    (q.setEn src v).pendSampler = q.pendSampler := by cases src <;> rfl
@[simp] theorem setEn_pendDisplay (src : Source) (v : Bool) :
    (q.setEn src v).pendDisplay = q.pendDisplay := by cases src <;> rfl

@[simp] theorem setPend_en (src other : Source) (l : List TimerOp) :
    (q.setPend src l).en other = q.en other := by cases src <;> cases other <;> rfl
@[simp] theorem setPend_pendSampler (src : Source) (l : List TimerOp) :
    (q.setPend src l).pendSampler = q.pendSampler := by cases src <;> rfl
@[simp] theorem setPend_pendDisplay (src : Source) (l : List TimerOp) :
    (q.setPend src l).pendDisplay = q.pendDisplay := by cases src <;> rfl

theorem setPend_pend_other {src other : Source} (h : other ≠ src) (l : List TimerOp) :
    (q.setPend src l).pend other = q.pend other := by
  cases src <;> cases other <;> first | rfl | exact absurd rfl h

@[simp] theorem hold_en (src other : Source) (op : TimerOp) : (q.hold src op).en other = q.en other := by
  unfold Irq.hold; split <;> simp
@[simp] theorem hold_pendSampler (src : Source) (op : TimerOp) : (q.hold src op).pendSampler = q.pendSampler := by
  unfold Irq.hold; split <;> simp
@[simp] theorem hold_pendDisplay (src : Source) (op : TimerOp) : (q.hold src op).pendDisplay = q.pendDisplay := by
  unfold Irq.hold; split <;> simp

theorem hold_pend_other {src other : Source} (h : other ≠ src) (op : TimerOp) :
    (q.hold src op).pend other = q.pend other := by
  unfold Irq.hold; split
  · rfl
  · exact setPend_pend_other q h _

/-! The pending list of a timer operation's own source. -/

@[simp] theorem setPend_pend_source (op : TimerOp) (v : MotVariant) (l : List TimerOp) :
    (q.setPend (op.source v) l).pend (op.source v) = l := by
  rcases op with m | m | _ | _ | _
  · cases m <;> cases v <;> rfl
  · cases m <;> cases v <;> rfl
  · cases v <;> rfl
  · cases v <;> rfl
  · cases v <;> rfl

/-- Holding an operation that is already held changes nothing. -/
theorem hold_of_mem {src : Source} {op : TimerOp} (h : op ∈ q.pend src) : q.hold src op = q := if_pos h

/-- Holding an operation that is not yet held appends it to its source's list. -/
theorem hold_pend_source {op : TimerOp} {v : MotVariant} (h : op ∉ q.pend (op.source v)) :
    (q.hold (op.source v) op).pend (op.source v) = q.pend (op.source v) ++ [op] := by
  rw [Irq.hold, if_neg h, setPend_pend_source]

end Sys2Proof.Machine
end

