-- ==== Sys2Proof/Laws/Ops.lean ====
section
/-!
SUPPORT. One lemma per shared operation: if it answers a next state, what that state is and what held before.
-/

namespace Sys2Proof.Machine

variable {s t : State}

/-! Sequencing and guards. -/

@[simp] theorem andThen_eq_next {o : Out} {k : State → Out} :
    andThen o k = .next t ↔ ∃ u, o = .next u ∧ k u = .next t := by
  cases o <;> simp [andThen]

@[simp] theorem andThen_next (k : State → Out) : andThen (.next s) k = k s := rfl

@[simp] theorem hostOp_eq_next {k : Out} : hostOp s k = .next t ↔ s.blocked = .none ∧ k = .next t := by
  unfold hostOp; split <;> simp [*]

theorem hostOp_of_free {k : Out} (h : s.blocked = .none) : hostOp s k = k := if_pos h

@[simp] theorem withDecoder_eq_next {k : Out} :
    withDecoder s k = .next t ↔ s.cfg.cmdSource = .pulseDecoded ∧ k = .next t := by
  unfold withDecoder; split <;> simp [*]

theorem withDecoder_of_present {k : Out} (h : s.cfg.cmdSource = .pulseDecoded) : withDecoder s k = k := if_pos h

/-- A delivered event either runs its handler or is held. -/
theorem deliver_eq_next {src : Source} {run hold : State → Out} :
    deliver src run hold s = .next t ↔
      (s.irq.en src = true ∧ run s = .next t) ∨ (s.irq.en src = false ∧ hold s = .next t) := by
  unfold deliver; cases s.irq.en src <;> simp

theorem deliver_enabled {src : Source} {run hold : State → Out} (h : s.irq.en src = true) :
    deliver src run hold s = run s := by simp [deliver, h]

theorem deliver_disabled {src : Source} {run hold : State → Out} (h : s.irq.en src = false) :
    deliver src run hold s = hold s := by simp [deliver, h]

/-! The step. -/

/-- A step answers a next state exactly when the configuration is valid, the script's next bytes decode to a
well-formed operation, and that operation answers it past its bytes. -/
theorem step_eq_next :
    step s = .next t ↔ s.cfg.Valid ∧ ∃ i len rest, decode s.script = .instr i len rest ∧
      i.wellFormed s.cfg = true ∧ exec i (s.advance len rest) = .next t := by
  unfold step configOk fetch operandsOk
  by_cases hv : s.cfg.Valid
  · rw [decide_eq_true hv, if_pos rfl, and_iff_right hv]
    cases decode s.script with
    | instr i len rest => by_cases hw : i.wellFormed s.cfg = true <;> simp [hw]
    | reserved w => simp
    | truncated => simp
    | ended => simp
  · simp [hv]

/-- A property kept by the bytes moved past and by every operation that answers is kept by every step. -/
theorem step_keeps {P : State → Prop} (hadv : ∀ (s : State) n r, P s → P (s.advance n r))
    (hexec : ∀ (i : Instr) (s t : State), s.cfg.Valid → P s → exec i s = .next t → P t)
    (hs : P s) (h : step s = .next t) : P t := by
  obtain ⟨hv, i, len, rest, -, -, he⟩ := step_eq_next.mp h
  exact hexec i (s.advance len rest) t hv (hadv s len rest hs) he

/-! BusDriver. -/

/-- The preconditions of a call (`40_bus_driver.md` R131). -/
theorem callEntry_eq_next {n : Nat} {k : Out} :
    callEntry n s k = .next t ↔ s.blocked = .none ∧ s.bus.busy = false ∧ s.bus.link = .idle ∧
      s.bus.busdivSet = true ∧ (1 ≤ n ∧ n ≤ Config.bufCap) ∧ k = .next t := by
  unfold callEntry
  cases s.bus.busy <;> cases s.bus.busdivSet <;> by_cases hb : s.blocked = .none <;>
    by_cases hl : s.bus.link = .idle <;> by_cases hn : 1 ≤ n ∧ n ≤ Config.bufCap <;> simp [hb, hl, hn]

/-- A divisor is answered for a target frequency in range only (`40_bus_driver.md` R130). -/
theorem busDivisor_eq_ok {cpu hz : Nat} {d : Byte} :
    busDivisor cpu hz = .ok d ↔ hz ≠ 0 ∧ 16 ≤ cpu / hz ∧ (cpu / hz - 16) / 2 ≤ 255 ∧
      d = BitVec.ofNat 8 ((cpu / hz - 16) / 2) := by
  have hmax : 2 ^ Config.busDivBits - 1 = 255 := rfl
  unfold busDivisor
  split
  · simp [*]
  · split
    · simp; omega
    · split
      · simp; omega
      · constructor
        · intro h; exact ⟨‹_›, by omega, by omega, by simpa using h.symm⟩
        · rintro ⟨-, -, -, rfl⟩; rfl

/-- BUS.INIT answers outside a transaction and for a target frequency in range only. -/
theorem execBusInit_eq_next {hz : BitVec 32} :
    execBusInit hz s = .next t ↔ s.blocked = .none ∧ s.bus.busy = false ∧
      ∃ d, busDivisor s.cfg.cpuHz hz.toNat = .ok d ∧ t = { s with
        bus := { s.bus with
          busdiv := d, busdivSet := true
          busy := false, link := .idle, outcome := .pending, dir := .send
          len := 0#5, cur := 0#5, curSet := true, ackarm := false }
        eng := { s.eng with req := .none, evt := none, phase := .afterStart, owned := false }
        irq := s.irq.setEn .bus true } := by
  unfold execBusInit
  by_cases hb : s.blocked = .none <;> cases hy : s.bus.busy <;> simp [hb]
  cases busDivisor s.cfg.cpuHz hz.toNat <;> simp [eq_comm]

/-- BUS.RET answers when the host waits and the bus is idle. -/
theorem execBusRet_next (h : execBusRet s = .next t) :
    s.bus.busy = false ∧ s.bus.link = .idle ∧ s.blocked ≠ .none ∧
      ∃ r, t = { s with blocked := .none }.giveResult r := by
  unfold execBusRet at h
  split at h
  · cases h
  · next hc =>
    have h1 : s.bus.busy = false := by simpa using fun hb => hc (.inl hb)
    have h2 : s.bus.link = .idle := by simpa using fun hl => hc (.inr hl)
    split at h
    · cases h
    · next hb => exact ⟨h1, h2, by simp [hb], _, (by simpa using h.symm)⟩
    · next hb =>
      refine ⟨h1, h2, by simp [hb], ?_⟩
      split at h
      · split at h
        · cases h
        · exact ⟨_, by simpa using h.symm⟩
      · exact ⟨_, by simpa using h.symm⟩

/-- A listed event answers in its context only: the engine part, then the handler or the event held. -/
theorem busEvent_next {c : BusCode} {d : Option Byte} (h : busEvent c d s = .next t) :
    busContext c s.bus = true ∧ s.eng.evt = none ∧ ∃ sym ph own, engineAnswer c d s.eng = some (sym, ph, own) ∧
      ∃ u, u = { s with
        buslog := s.buslog ++ [sym]
        eng := { s.eng with req := .none, evt := some ⟨c.status, d⟩, phase := ph, owned := own } } ∧
      ((s.irq.enBus = true ∧ handleCode c d u = .next t) ∨ (s.irq.enBus = false ∧ t = u)) := by
  unfold busEvent at h
  split at h
  · next hc =>
    have hc := by simpa using hc
    split at h
    · cases h
    · next sym ph own ha =>
      refine ⟨hc.1, hc.2, sym, ph, own, ha, _, rfl, ?_⟩
      rcases deliver_eq_next.mp h with ⟨he, h⟩ | ⟨he, h⟩
      · exact .inl ⟨he, h⟩
      · exact .inr ⟨he, by simpa using h.symm⟩
  · cases h

/-- The engine part of a listed event: the wire symbol, the engine's phase and ownership, the event pending. -/
def engineDone (c : BusCode) (d : Option Byte) (sym : WireSym) (ph : EngPhase) (own : Bool) (s : State) : State :=
  { s with
    buslog := s.buslog ++ [sym]
    eng := { s.eng with req := .none, evt := some ⟨c.status, d⟩, phase := ph, owned := own } }

/-- A listed event in its context, its source enabled, is its engine part and then its handler. -/
theorem busEvent_enabled {c : BusCode} {d : Option Byte} {sym : WireSym} {ph : EngPhase} {own : Bool}
    (hc : busContext c s.bus = true) (he : s.eng.evt = none) (ha : engineAnswer c d s.eng = some (sym, ph, own))
    (hi : s.irq.enBus = true) : busEvent c d s = handleCode c d (engineDone c d sym ph own s) := by
  simp only [busEvent, hc, he, ha, Option.isNone_none, Bool.and_self, if_true]
  exact deliver_enabled hi

/-- A listed event in its context, its source disabled, is its engine part alone. -/
theorem busEvent_disabled {c : BusCode} {d : Option Byte} {sym : WireSym} {ph : EngPhase} {own : Bool}
    (hc : busContext c s.bus = true) (he : s.eng.evt = none) (ha : engineAnswer c d s.eng = some (sym, ph, own))
    (hi : s.irq.enBus = false) : busEvent c d s = .next (engineDone c d sym ph own s) := by
  simp only [busEvent, hc, he, ha, Option.isNone_none, Bool.and_self, if_true]
  exact deliver_disabled hi

/-- A stored byte of a received event goes on with the buffer written and the cursor past it. -/
theorem storeByte_some {v : Byte} {k : State → Out} (hc : s.bus.curSet = true)
    (ha : s.bus.cur.toNat < Config.bufCap) :
    storeByte (some v) s k = k { s with bus := { s.bus with
      buf := s.bus.buf.write s.bus.cur.toNat v, cur := s.bus.cur + 1#5 } } := by
  simp [storeByte, hc, bufWrite_of_lt v ha]

/-- An acknowledged send byte with more to send hands over the byte at the cursor. -/
theorem handleSendAck_more {v : Byte} (hc : s.bus.curSet = true) (hl : s.bus.cur.toNat < s.bus.len.toNat)
    (hr : bufRead s.bus.buf s.bus.cur.toNat = .ok v) :
    handleSendAck s = .next { act (.tx v) (consumeEvent s) with
      bus := { s.bus with cur := s.bus.cur + 1#5, link := .transmitPhase } } := by
  refine (if_neg (by simp [hc])).trans ((if_pos hl).trans ?_)
  simp only [consumeEvent_bus, hr]
  rfl

/-- An acknowledged send byte with nothing more to send completes the transaction. -/
theorem handleSendAck_last (hc : s.bus.curSet = true) (hl : s.bus.len.toNat ≤ s.bus.cur.toNat) :
    handleSendAck s = .next (complete (consumeEvent s)) :=
  (if_neg (by simp [hc])).trans (if_neg (Nat.not_lt.mpr hl))

/-- An acknowledged read address with one byte to read arms the receiver for the final byte. -/
theorem handleSlarAck_one (hc : s.bus.curSet = true) (hl : s.bus.len.toNat = s.bus.cur.toNat + 1) :
    handleSlarAck s = .next (armLast (consumeEvent s)) :=
  (if_neg (by simp [hc])).trans (if_pos hl)

/-- An acknowledged read address with more than one byte to read arms the receiver to acknowledge. -/
theorem handleSlarAck_many (hc : s.bus.curSet = true) (hl : s.bus.len.toNat ≠ s.bus.cur.toNat + 1) :
    handleSlarAck s = .next (setLink .receivePhaseMulti
      (act (.rxArm true) { consumeEvent s with bus := { s.bus with ackarm := true } })) :=
  (if_neg (by simp [hc])).trans (if_neg hl)

/-- A stored byte: it is there, the cursor is specified and in the buffer, and the rest goes on past it. -/
theorem storeByte_next {d : Option Byte} {k : State → Out} (h : storeByte d s k = .next t) :
    ∃ v, d = some v ∧ s.bus.curSet = true ∧ s.bus.cur.toNat < Config.bufCap ∧
      k { s with bus := { s.bus with
        buf := s.bus.buf.write s.bus.cur.toNat v, cur := s.bus.cur + 1#5 } } = .next t := by
  unfold storeByte at h
  split at h
  · cases h
  · next v =>
    split at h
    · cases h
    · next hc =>
      split at h
      · cases h
      · next m hw =>
        obtain ⟨ha, rfl⟩ := bufWrite_ok hw
        exact ⟨v, rfl, by simpa using hc, ha, h⟩

/-- An acknowledged send byte: the next byte is handed over, or the transaction completes. -/
theorem handleSendAck_next (h : handleSendAck s = .next t) :
    s.bus.curSet = true ∧
    ((s.bus.cur.toNat < s.bus.len.toNat ∧ s.bus.cur.toNat < Config.bufCap ∧
        ∃ v u, s.bus.buf.read? s.bus.cur.toNat = some v ∧ u = act (.tx v) (consumeEvent s) ∧
          t = { u with bus := { u.bus with cur := u.bus.cur + 1#5, link := .transmitPhase } }) ∨
      (s.bus.len.toNat ≤ s.bus.cur.toNat ∧ t = complete (consumeEvent s))) := by
  unfold handleSendAck at h
  dsimp only at h
  split at h
  · cases h
  · next hc =>
    refine ⟨by simpa using hc, ?_⟩
    split at h
    · next hlt =>
      split at h
      · cases h
      · next v hr =>
        obtain ⟨ha, hv⟩ := bufRead_ok hr
        exact .inl ⟨hlt, ha, v, _, hv, rfl, (Host.Outcome.next.inj h).symm⟩
    · next hge => exact .inr ⟨Nat.le_of_not_lt hge, (Host.Outcome.next.inj h).symm⟩

/-- An acknowledged read address: the receiver is armed for the final byte or for one of several. -/
theorem handleSlarAck_next (h : handleSlarAck s = .next t) :
    s.bus.curSet = true ∧
    ((s.bus.len.toNat = s.bus.cur.toNat + 1 ∧ t = armLast (consumeEvent s)) ∨
      (s.bus.len.toNat ≠ s.bus.cur.toNat + 1 ∧ ∃ u, u = consumeEvent s ∧
        t = setLink .receivePhaseMulti (act (.rxArm true) { u with bus := { u.bus with ackarm := true } }))) := by
  unfold handleSlarAck at h
  dsimp only at h
  split at h
  · cases h
  · next hc =>
    refine ⟨by simpa using hc, ?_⟩
    split at h
    · next he => exact .inl ⟨he, (Host.Outcome.next.inj h).symm⟩
    · next he => exact .inr ⟨he, _, rfl, (Host.Outcome.next.inj h).symm⟩

/-- A received byte with more to come is stored, and the receiver is armed again. -/
theorem handleRxdAck_next {d : Option Byte} (h : handleRxdAck d s = .next t) :
    ∃ v u, d = some v ∧ s.bus.curSet = true ∧ s.bus.cur.toNat < Config.bufCap ∧
      u = { consumeEvent s with bus := { s.bus with
        buf := s.bus.buf.write s.bus.cur.toNat v, cur := s.bus.cur + 1#5 } } ∧
      ((u.bus.len.toNat = u.bus.cur.toNat + 1 ∧ t = armLast u) ∨
        (u.bus.len.toNat ≠ u.bus.cur.toNat + 1 ∧ t = act (.rxArm true) u)) := by
  obtain ⟨v, hd, hc, ha, hk⟩ := storeByte_next h
  refine ⟨v, _, hd, hc, ha, rfl, ?_⟩
  split at hk
  · next he => exact .inl ⟨he, by simpa using hk.symm⟩
  · next he => exact .inr ⟨he, by simpa using hk.symm⟩

/-- The final byte is stored and the transaction completes. -/
theorem handleRxdNack_next {d : Option Byte} (h : handleRxdNack d s = .next t) :
    ∃ v, d = some v ∧ s.bus.curSet = true ∧ s.bus.cur.toNat < Config.bufCap ∧
      t = complete { consumeEvent s with bus := { s.bus with
        buf := s.bus.buf.write s.bus.cur.toNat v, cur := s.bus.cur + 1#5 } } := by
  obtain ⟨v, hd, hc, ha, hk⟩ := storeByte_next h
  exact ⟨v, hd, hc, ha, by simpa using hk.symm⟩

/-- What is served at IRQ.ENABLE of source 0: nothing, an unexpected status code, or a listed event in its context. -/
theorem servePending_next (h : servePending s = .next t) :
    (s.eng.evt = none ∧ t = s) ∨
    (∃ e, s.eng.evt = some e ∧
      ((busCodeOf e.status = none ∧ t = act .rearm (consumeEvent (resumeRequest s))) ∨
        ∃ c, busCodeOf e.status = some c ∧ busContext c s.bus = true ∧ handleCode c e.data s = .next t)) := by
  unfold servePending at h
  split at h
  · next he => exact .inl ⟨he, by simpa using h.symm⟩
  · next e he =>
    refine .inr ⟨e, he, ?_⟩
    split at h
    · next hn => exact .inl ⟨hn, by simpa [handleOther] using h.symm⟩
    · next c hc =>
      split at h
      · next hx => exact .inr ⟨c, hc, hx, h⟩
      · cases h

/-- An unexpected status code: the re-arm on the enabled source, held on the disabled one with the request standing
over. -/
theorem execEvOther_next {st : Byte} (h : execEvOther st s = .next t) :
    busCodeOf st = none ∧ ∃ u, u = { s with eng := { s.eng with evt := some ⟨maskStatus st, none⟩ } } ∧
      ((s.irq.enBus = true ∧ t = act .rearm (consumeEvent u)) ∨
        (s.irq.enBus = false ∧ s.eng.evt = none ∧
          t = { u with eng := { u.eng with req := .none, standby := s.eng.req } })) := by
  unfold execEvOther at h
  split at h
  · cases h
  · next hc =>
    split at h
    · cases h
    · next hg =>
      refine ⟨hc, _, rfl, ?_⟩
      rcases deliver_eq_next.mp h with ⟨he, h⟩ | ⟨he, h⟩
      · exact .inl ⟨he, by simpa [handleOther] using h.symm⟩
      · exact .inr ⟨he, Classical.not_not.mp fun hn => hg ⟨he, hn⟩, by simpa [holdOther] using h.symm⟩

/-- A listed event's handler runs only while a transaction is in flight. -/
theorem busContext_busy {c : BusCode} {b : Bus} (h : busContext c b = true) : b.busy = true :=
  (Bool.and_eq_true _ _ ▸ h).1

/-! MotorDriver. -/

/-- What the motor and ESC handlers can change: pins, their flags and the pin trace. -/
def PinsOnly (s t : State) : Prop :=
  t = { s with mot0 := t.mot0, mot1 := t.mot1, esc := t.esc, pinlog := t.pinlog } ∧
  (∀ m, t.motor m = { s.motor m with
    pinA := (t.motor m).pinA, pinB := (t.motor m).pinB, pinsSet := (t.motor m).pinsSet }) ∧
  t.esc = { s.esc with pinesc := t.esc.pinesc, pinescSet := t.esc.pinescSet }

theorem PinsOnly.refl (s : State) : PinsOnly s s := ⟨rfl, fun _ => rfl, rfl⟩

theorem PinsOnly.trans {s t u : State} (h : PinsOnly s t) (k : PinsOnly t u) : PinsOnly s u := by
  obtain ⟨h1, h2, h3⟩ := h
  obtain ⟨k1, k2, k3⟩ := k
  refine ⟨?_, fun m => ?_, ?_⟩
  · rw [k1]; rw [h1]
  · rw [k2 m]; rw [h2 m]
  · rw [k3]; rw [h3]

theorem PinsOnly.driveMotor (s : State) (m : MotorId) (a b : Bool) : PinsOnly s (driveMotor m a b s) := by
  refine ⟨?_, fun k => ?_, ?_⟩ <;> cases m <;> first | rfl | (cases k <;> rfl)

theorem PinsOnly.driveEsc (s : State) (v : Bool) : PinsOnly s (driveEsc v s) :=
  ⟨rfl, fun m => by cases m <;> rfl, rfl⟩

/-- The on body drives one of the two direction levels, or nothing below the margin. -/
theorem onBody_next {m : MotorId} (h : onBody m s = .next t) :
    (s.motor m).powerSet = true ∧
    ((fullyOff s.cfg (s.motor m).power = true ∧ t = s) ∨
      (fullyOff s.cfg (s.motor m).power = false ∧
        t = driveMotor m (isPos (s.motor m).power) (!isPos (s.motor m).power) s)) := by
  unfold onBody at h
  split at h
  · cases h
  · next hp =>
    refine ⟨by simpa using hp, ?_⟩
    split at h
    · next ho => exact .inl ⟨ho, by simpa using h.symm⟩
    · next ho =>
      refine .inr ⟨by simpa using ho, ?_⟩
      split at h
      · next hq => rw [hq]; simpa using h.symm
      · next hq => rw [Bool.not_eq_true] at hq; rw [hq]; simpa using h.symm

/-- The off body brakes, or does nothing above the margin. -/
theorem offBody_next {m : MotorId} (h : offBody m s = .next t) :
    (s.motor m).powerSet = true ∧
    ((fullyOn s.cfg (s.motor m).power = true ∧ t = s) ∨
      (fullyOn s.cfg (s.motor m).power = false ∧ t = driveMotor m true true s)) := by
  unfold offBody at h
  split at h
  · cases h
  · next hp =>
    refine ⟨by simpa using hp, ?_⟩
    split at h
    · next ho => exact .inl ⟨ho, by simpa using h.symm⟩
    · next ho => exact .inr ⟨by simpa using ho, by simpa using h.symm⟩

/-- The assert body drives the pin high unless the shutdown flag is set. -/
theorem assertBody_next (h : assertBody s = .next t) :
    s.esc.escshutSet = true ∧
    ((s.esc.escshut = true ∧ t = s) ∨ (s.esc.escshut = false ∧ t = driveEsc true s)) := by
  unfold assertBody at h
  split at h
  · cases h
  · next hp =>
    refine ⟨by simpa using hp, ?_⟩
    split at h
    · next ho => exact .inl ⟨ho, by simpa using h.symm⟩
    · next ho => exact .inr ⟨by simpa using ho, by simpa using h.symm⟩

theorem onBody_pins {m : MotorId} (h : onBody m s = .next t) : PinsOnly s t := by
  obtain ⟨-, ⟨-, rfl⟩ | ⟨-, rfl⟩⟩ := onBody_next h
  · exact .refl _
  · exact .driveMotor _ _ _ _

/-- A timer handler operation changes pins only. -/
theorem runTimerOp_pins {op : TimerOp} (h : runTimerOp op s = .next t) : PinsOnly s t := by
  cases op with
  | motOn m =>
    simp only [runTimerOp] at h
    split at h
    · exact onBody_pins h
    · cases h
  | motOff m =>
    obtain ⟨-, ⟨-, rfl⟩ | ⟨-, rfl⟩⟩ := offBody_next h
    · exact .refl _
    · exact .driveMotor _ _ _ _
  | motOvf =>
    simp only [runTimerOp] at h
    split at h
    · obtain ⟨u, h0, h1⟩ := andThen_eq_next.mp h
      exact (onBody_pins h0).trans (onBody_pins h1)
    · cases h
  | escAssert =>
    obtain ⟨-, ⟨-, rfl⟩ | ⟨-, rfl⟩⟩ := assertBody_next h
    · exact .refl _
    · exact .driveEsc _ _
  | escDeassert =>
    have : t = driveEsc false s := by simpa [runTimerOp, deassertBody] using h.symm
    exact this ▸ .driveEsc _ _

/-- A list of held handler operations changes pins only. -/
theorem runTimerOps_pins {ops : List TimerOp} (h : runTimerOps ops s = .next t) : PinsOnly s t := by
  induction ops generalizing s with
  | nil =>
    have : t = s := by simpa [runTimerOps] using h.symm
    exact this ▸ .refl _
  | cons op rest ih =>
    obtain ⟨u, h0, h1⟩ := andThen_eq_next.mp h
    exact (runTimerOp_pins h0).trans (ih h1)

/-- A due operation runs on an enabled source and is held on a disabled one. -/
theorem due_next {op : TimerOp} (h : due op s = .next t) :
    (s.irq.en (op.source s.cfg.motVariant) = true ∧ runTimerOp op s = .next t) ∨
    (s.irq.en (op.source s.cfg.motVariant) = false ∧
      t = { s with irq := s.irq.hold (op.source s.cfg.motVariant) op }) :=
  (deliver_eq_next.mp h).imp_right fun ⟨he, h⟩ => ⟨he, by simpa using h.symm⟩

/-- A conditional due operation does nothing or is due. -/
theorem dueIf_next {b : Bool} {op : TimerOp} (h : dueIf b op s = .next t) :
    (b = false ∧ t = s) ∨ (b = true ∧ due op s = .next t) := by
  cases b
  · exact .inl ⟨rfl, by simpa [dueIf] using h.symm⟩
  · exact .inr ⟨rfl, by simpa [dueIf] using h⟩

/-! Interrupt control. -/

/-- The held operations of a timer source are run, and none is left. -/
theorem serveSource_timer_next {src : Source} (hs : src = .brushed0 ∨ src = .brushed1 ∨ src = .esc)
    (h : serveSource src s = .next t) :
    ∃ u, runTimerOps (s.irq.pend src) s = .next u ∧ PinsOnly s u ∧
      t = { u with irq := u.irq.setPend src [] } := by
  rcases hs with rfl | rfl | rfl <;>
  · obtain ⟨u, h0, h1⟩ := andThen_eq_next.mp h
    exact ⟨u, h0, runTimerOps_pins h0, by simpa using h1.symm⟩

/-- IRQ.ENABLE enables its source and serves it. -/
theorem execIrqEnable_next {k : BitVec 3} (h : execIrqEnable k s = .next t) :
    s.blocked = .none ∧ ∃ src, sourceOf s.cfg.motVariant k = some src ∧
      serveSource src { s with irq := s.irq.setEn src true } = .next t := by
  obtain ⟨hb, h⟩ := hostOp_eq_next.mp h
  refine ⟨hb, ?_⟩
  split at h
  · cases h
  · next src hs => exact ⟨src, hs, h⟩

end Sys2Proof.Machine
end

