-- ==== Sys2Proof/Laws/Invariants.lean ====
section
/-!
SUPPORT. The small lemmas of the invariants: which fields each looks at, and how the engine's follows from its
readiness.
-/

namespace Sys2Proof.Machine

variable {s t : State}

/-- With no event pending the engine's invariant is its readiness. -/
theorem engInv_of_none (he : s.eng.evt = none) : EngInv s ↔ EngReady s s.eng.req := by simp [EngInv, he]

/-- The BusDriver's invariant looks at its fields and at the host's block only. -/
theorem busInv_congr (hb : t.bus = s.bus) (hk : t.blocked = s.blocked) : BusInv t ↔ BusInv s := by
  unfold BusInv; rw [hb, hk]

/-- The engine's invariant looks at the BusDriver, the engine and the parameters only. -/
theorem engInv_congr (hb : t.bus = s.bus) (he : t.eng = s.eng) (hc : t.cfg = s.cfg) : EngInv t ↔ EngInv s := by
  unfold EngInv EngReady; rw [hb, he, hc]

/-- The readable bytes are those of the BusDriver's fields and the host's block. -/
theorem bufInv_congr (hb : t.bus = s.bus) (hk : t.blocked = s.blocked) : BufInv t ↔ BufInv s := by
  unfold BufInv; rw [hb, hk]

/-- The decoder's invariant looks at the decoder and the parameters only. -/
theorem decoderInv_congr (hp : t.pd = s.pd) (hc : t.cfg = s.cfg) : DecoderInv t ↔ DecoderInv s := by
  unfold DecoderInv; rw [hp, hc]

/-- The filter's invariant looks at the filter and the parameters only. -/
theorem oriInv_congr (ho : t.ori = s.ori) (hc : t.cfg = s.cfg) : OriInv t ↔ OriInv s := by
  unfold OriInv; rw [ho, hc]

/-- The status code of a listed event is that event's. -/
@[simp] theorem busCodeOf_status (c : BusCode) : busCodeOf c.status = some c := by cases c <;> decide

/-- Only bits 7:3 of a status byte carry its code (`30_encoding.md` R102). -/
@[simp] theorem busCodeOf_maskStatus (st : Byte) : busCodeOf (maskStatus st) = busCodeOf st := by
  have hm : maskStatus (maskStatus st) = maskStatus st := by simp [maskStatus, BitVec.and_assoc]
  simp [busCodeOf, hm]

end Sys2Proof.Machine
end

