-- ==== Sys2Proof/Laws/Line.lean ====
section
/-!
SUPPORT. The levels of the lines are those the devices make (`40_bus_driver.md` R161, R162).
-/

namespace Sys2Proof.Machine

@[simp] theorem driveHalf_sample (who : BusDevice) (scl v : Bool) : (driveHalf who scl v).sample = ⟨scl, v⟩ := by
  cases who <;> cases scl <;> cases v <;> rfl

@[simp] theorem driveBit_sample (who : BusDevice) (v : Bool) :
    (driveBit who v).map LineDrive.sample = bitSamples v := by simp [driveBit, bitSamples]

@[simp] theorem idleDrive_sample : idleDrive.sample = idleSample := rfl
@[simp] theorem holdDrive_sample : holdDrive.sample = holdSample := rfl

/-- Whichever way a byte goes, the devices' driving gives the samples of its symbol. -/
theorem drives_sample (way : ByteWay) (x : WireSym) : (x.drives way).map LineDrive.sample = x.samples := by
  cases x <;> simp [WireSym.drives, WireSym.samples, List.map_flatMap]

/-- The device that does not drive a bit of a byte releases SDA in it (R164). -/
theorem driveBit_other_releases (v : Bool) :
    (∀ d ∈ driveBit .master v, d.sdaPeripheralLow = false) ∧ ∀ d ∈ driveBit .peripheral v, d.sdaMasterLow = false := by
  cases v <;> decide

end Sys2Proof.Machine
end

