-- ==== Sys2Proof/Laws/PerInstr.lean ====
section
/-!
SUPPORT. One lemma per operation of the family `SelectsRow`: the operation word of a well-formed operation selects
the operation's own row of the table and no earlier one (`30_encoding.md` R96).
-/

namespace Sys2Proof.Laws.SelectsRow

/-- The word of a well-formed operation selects its row. -/
def Statement (i : Instr) : Prop := ∀ c : Config, i.wellFormed c = true → selectRow i.word = some i.op

/-! The words of the rows whose immediate is an operand. -/

theorem send_words : ∀ n : Byte, selectRow (0x0100#16 ||| n.setWidth 16) = some .busSend := by decide +kernel
theorem recv_words : ∀ n : Byte, selectRow (0x0200#16 ||| n.setWidth 16) = some .busRecv := by decide +kernel
theorem other_words : ∀ st : Byte, st &&& 0xF8#8 ∉ listedStatus →
    selectRow (0x1000#16 ||| st.setWidth 16) = some .evOther := by decide +kernel
theorem sete_words : ∀ p : Byte, selectRow (0x3100#16 ||| p.setWidth 16) = some .motSete := by decide +kernel
theorem tick_words : ∀ lv : BitVec 5,
    selectRow (0x2000#16 ||| (lv.setWidth 8).setWidth 16) = some .pdTick := by decide +kernel
theorem read_words : ∀ ch : BitVec 3,
    selectRow (0x2100#16 ||| (ch.setWidth 8).setWidth 16) = some .pdRead := by decide +kernel
theorem timer_words : ∀ t : BitVec 2,
    selectRow (0x3900#16 ||| (t.setWidth 8).setWidth 16) = some .tmrTick := by decide +kernel
theorem disable_words : ∀ src : BitVec 3,
    selectRow (0x5100#16 ||| (src.setWidth 8).setWidth 16) = some .irqDisable := by decide +kernel
theorem enable_words : ∀ src : BitVec 3,
    selectRow (0x5200#16 ||| (src.setWidth 8).setWidth 16) = some .irqEnable := by decide +kernel

/-- A row with a fixed immediate. -/
theorem fixed_word (op : Op) (imm : Byte) (h : selectRow (op.pat ||| imm.setWidth 16) = some op) :
    selectRow (op.pat ||| imm.setWidth 16) = some op := h

/-! The family. -/

theorem busInit (hz : BitVec 32) : Statement (.busInit hz) := fun _ _ => fixed_word .busInit 0#8 (by decide)
theorem busSend (p : List Byte) : Statement (.busSend p) := fun _ _ => send_words _
theorem busRecv (n : Byte) : Statement (.busRecv n) := fun _ _ => recv_words n
theorem busRet : Statement .busRet := fun _ _ => rfl
theorem evStart : Statement .evStart := fun _ _ => rfl
theorem evRstart : Statement .evRstart := fun _ _ => rfl
theorem evSlawAck : Statement .evSlawAck := fun _ _ => rfl
theorem evSlawNack : Statement .evSlawNack := fun _ _ => rfl
theorem evTxdAck : Statement .evTxdAck := fun _ _ => rfl
theorem evTxdNack : Statement .evTxdNack := fun _ _ => rfl
theorem evSlarAck : Statement .evSlarAck := fun _ _ => rfl
theorem evSlarNack : Statement .evSlarNack := fun _ _ => rfl
theorem evRxdAck (d : Byte) : Statement (.evRxdAck d) := fun _ _ => fixed_word .evRxdAck 0#8 (by decide)
theorem evRxdNack (d : Byte) : Statement (.evRxdNack d) := fun _ _ => fixed_word .evRxdNack 0#8 (by decide)
theorem evOther (st : Byte) : Statement (.evOther st) := fun _ h => other_words st (of_decide_eq_true h)
theorem evStopdone : Statement .evStopdone := fun _ _ => rfl
theorem pdTick (lv : BitVec 5) : Statement (.pdTick lv) := fun _ _ => tick_words lv
theorem pdRead (ch : BitVec 3) : Statement (.pdRead ch) := fun _ _ => read_words ch
theorem pdReadshut : Statement .pdReadshut := fun _ _ => rfl
theorem motSetb (m : MotorId) (p : Word16) :
    Statement (.motSetb m p) := by
  cases m
  · exact fun _ _ => fixed_word .motSetb 0#8 (by decide)
  · exact fun _ _ => fixed_word .motSetb 1#8 (by decide)
theorem motSete (p : Byte) : Statement (.motSete p) := fun _ _ => sete_words p
theorem motShut (f : Bool) : Statement (.motShut f) := by cases f <;> exact fun _ _ => rfl
theorem motRecomp : Statement .motRecomp := fun _ _ => rfl
theorem motOn (m : MotorId) : Statement (.motOn m) := by cases m <;> exact fun _ _ => rfl
theorem motOff (m : MotorId) : Statement (.motOff m) := by cases m <;> exact fun _ _ => rfl
theorem motOvf : Statement .motOvf := fun _ _ => rfl
theorem escAssert : Statement .escAssert := fun _ _ => rfl
theorem escDeassert : Statement .escDeassert := fun _ _ => rfl
theorem tmrTick (t : BitVec 2) : Statement (.tmrTick t) := fun _ _ => timer_words t
theorem motSetbl (m : MotorId) (b : Byte) :
    Statement (.motSetbl m b) := by
  cases m
  · exact fun _ _ => fixed_word .motSetbl 0#8 (by decide)
  · exact fun _ _ => fixed_word .motSetbl 1#8 (by decide)
theorem motSetbh (m : MotorId) (b : Byte) :
    Statement (.motSetbh m b) := by
  cases m
  · exact fun _ _ => fixed_word .motSetbh 0#8 (by decide)
  · exact fun _ _ => fixed_word .motSetbh 1#8 (by decide)
theorem oriUpdate (xl xh yl yh zl zh : Byte) :
    Statement (.oriUpdate xl xh yl yh zl zh) := fun _ _ => fixed_word .oriUpdate 0#8 (by decide)
theorem oriSign : Statement .oriSign := fun _ _ => rfl
theorem schDtick : Statement .schDtick := fun _ _ => rfl
theorem irqDisable (src : BitVec 3) : Statement (.irqDisable src) := fun _ _ => disable_words src
theorem irqEnable (src : BitVec 3) : Statement (.irqEnable src) := fun _ _ => enable_words src
theorem schTake (k : TickCtr) : Statement (.schTake k) := by cases k <;> exact fun _ _ => rfl

end Sys2Proof.Laws.SelectsRow
end

