-- ==== Sys2Proof/Machine/Reference.lean ====
section
/-!
DEFINITION. The reference host (`44_scheduler.md` R250, R253 to R263): a program of host operations that uses the
values the block returns to it, and the run of such a program with handlers anywhere between its operations.
-/

namespace Sys2Proof.Machine

/-- A program of the main context: operations, some of which return a value the rest depends on. The bus events of
its blocking calls stand in it where the peripheral's answers place them (R260, R261). -/
inductive HostProgram where
  | done
  | op (i : Instr) (rest : HostProgram)
  | read (i : Instr) (rest : HostResult → HostProgram)

/-- The value the latest operation returned (`30_encoding.md` R114). It is asked for after an operation that returns
one, so the default is taken in no run. -/
def State.lastResult (s : State) : HostResult := s.results.getLast?.getD (.taken false)

/-- Run a program. `gaps` lists, for each of its operations in turn, the handler operations that run before it: handlers
may run between any two host operations and throughout the blocking calls (R253). -/
def HostProgram.run (p : HostProgram) (gaps : List (List Instr)) (s : State) : Out :=
  match p with
  | .done => .next s
  | .op i rest =>
    andThen (runOps (gaps.headD []) s) fun s => andThen (exec i s) fun s => rest.run gaps.tail s
  | .read i rest =>
    andThen (runOps (gaps.headD []) s) fun s => andThen (exec i s) fun s => (rest s.lastResult).run gaps.tail s

/-- Operations whose results are not used, and then a program. -/
def HostProgram.ops (is : List Instr) (rest : HostProgram) : HostProgram :=
  match is with
  | [] => rest
  | i :: is => .op i (HostProgram.ops is rest)

/-! What a returned value says. Each is asked of the result of the operation that returns that kind. -/

/-- A sign (ORI.SIGN). -/
def HostResult.asSign : HostResult → Sign
  | .sign v => v
  | .sent _ => .zero
  | .received _ => .zero
  | .duty _ => .zero
  | .shut _ => .zero
  | .taken _ => .zero

/-- A byte (PD.READ). -/
def HostResult.asByte : HostResult → Byte
  | .duty b => b
  | .sent _ => 0#8
  | .received _ => 0#8
  | .shut _ => 0#8
  | .sign _ => 0#8
  | .taken _ => 0#8

/-- A flag (BUS.RET after a send, PD.READSHUT, SCH.TAKE). -/
def HostResult.asFlag : HostResult → Bool
  | .sent v => v
  | .shut v => v
  | .taken v => v
  | .received _ => false
  | .duty _ => false
  | .sign _ => false

/-- The bytes of a receive, none after an abort (BUS.RET). -/
def HostResult.asBytes : HostResult → Option (List Byte)
  | .received bs => bs
  | .sent _ => none
  | .duty _ => none
  | .shut _ => none
  | .sign _ => none
  | .taken _ => none

/-! SCH.CMD. -/

/-- The first channel of the pair of channels that commands a motor (R255). -/
def firstChannel : MotorId → BitVec 3
  | .m0 => 0#3
  | .m1 => 2#3

/-- One brushed command of SCH.CMD (R255): read the pair of channels `2 m` and `2 m + 1`, combine their difference with
the sign, and set the power under its guard. -/
def cmdBrushed (c : Config) (sg : Sign) (m : MotorId) (rest : HostProgram) : HostProgram :=
  .read (.pdRead (firstChannel m)) fun a => .read (.pdRead (firstChannel m + 1#3)) fun b =>
    .ops (opsSetbg c.motVariant m (signedCommand sg ((a.asByte.toNat : Int) - b.asByte.toNat))) rest

/-- SCH.CMD, as six separate reads and not a snapshot (R255), or with the fixed commands (R263). -/
def cmdProgram (c : Config) (rest : HostProgram) : HostProgram :=
  .read .oriSign fun sg =>
    match c.cmdSource with
    | .pulseDecoded =>
      cmdBrushed c sg.asSign .m0 <| cmdBrushed c sg.asSign .m1 <|
        .read (.pdRead 4#3) fun t => .op (.motSete (quantise c t.asByte)) <|
          .read .pdReadshut fun f => .op (.motShut f.asFlag) <| .op .motRecomp rest
    | .fixedProfile =>
      .ops (opsSetbg c.motVariant .m0 (signedCommand sg.asSign c.fixedPwr0)) <|
        .ops (opsSetbg c.motVariant .m1 (signedCommand sg.asSign c.fixedPwr1)) <|
          .op (.motSete (fixedThrottle c)) <| .op (.motShut false) <| .op .motRecomp rest

/-! SCH.POLLACC. -/

/-- What the peripheral answers in one poll: the six bytes, or the point at which it refuses to acknowledge (R254). The
master acknowledges the bytes of a receive, so there is no later point (`40_bus_driver.md` R148). -/
inductive PollAnswer where
  | bytes (d0 d1 d2 d3 d4 d5 : Byte)
  /-- its address in the pointer write: EV.SLAW_NACK -/
  | refusesWrite
  /-- the pointer byte: EV.TXD_NACK -/
  | refusesPointer
  /-- its address in the read: EV.SLAR_NACK -/
  | refusesRead
deriving DecidableEq, Repr

/-- The bus events of the pointer write (R260, `40_bus_driver.md` R148). -/
def PollAnswer.writeEvents : PollAnswer → List Instr
  | .bytes _ _ _ _ _ _ => [.evStart, .evSlawAck, .evTxdAck, .evStopdone]
  | .refusesRead => [.evStart, .evSlawAck, .evTxdAck, .evStopdone]
  | .refusesWrite => [.evStart, .evSlawNack, .evStopdone]
  | .refusesPointer => [.evStart, .evSlawAck, .evTxdNack, .evStopdone]

/-- The bus events of the read of six bytes (R261, `40_bus_driver.md` R148). After a failed pointer write there is no
read (R254). -/
def PollAnswer.readEvents : PollAnswer → List Instr
  | .bytes d0 d1 d2 d3 d4 d5 =>
    [.evStart, .evSlarAck] ++ [d0, d1, d2, d3, d4].map .evRxdAck ++ [.evRxdNack d5, .evStopdone]
  | .refusesRead => [.evStart, .evSlarNack, .evStopdone]
  | .refusesWrite => []
  | .refusesPointer => []

/-- The bus part of SCH.POLLACC: the pointer write, the read if it succeeded, the update of the filter if six bytes
came (R254). -/
def pollBusProgram (c : Config) (a : PollAnswer) (rest : HostProgram) : HostProgram :=
  .op (.busSend [c.accRegOut]) <| .ops a.writeEvents <| .read .busRet fun ok =>
    if ok.asFlag then
      .op (.busRecv 6#8) <| .ops a.readEvents <| .read .busRet fun r =>
        match r.asBytes with
        | some [d0, d1, d2, d3, d4, d5] => .op (.oriUpdate d0 d1 d2 d3 d4 d5) rest
        | _ => rest
    else rest

/-- SCH.POLLACC (R254): the poll, and then SCH.CMD whether it succeeded or not. -/
def pollProgram (c : Config) (a : PollAnswer) (rest : HostProgram) : HostProgram :=
  pollBusProgram c a (cmdProgram c rest)

/-! The loop. -/

/-- What one turn of the loop is given: what the peripheral answers if the turn polls, and whether the host performs
each of the turn's two SCH.CMD, the poll's and its own. The reference host leaves SCH.CMD out until every channel has
published (`70_reset_and_hazards.md` R310 (6)); how it knows is in no rule, so each is free (log 29). -/
structure Turn where
  answer : PollAnswer
  pollCommands : Bool
  commands : Bool
deriving DecidableEq, Repr

/-- SCH.CMD where the host performs it (`70_reset_and_hazards.md` R310 (6), log 29). -/
def cmdWhen (c : Config) (performed : Bool) (rest : HostProgram) : HostProgram :=
  if performed then cmdProgram c rest else rest

/-- One turn of the loop (R253): take the counters under their guard, poll if SCH.TAKE 0 returned 1, and command. The
poll is SCH.POLLACC, whose last part is SCH.CMD. The branch of SCH.TAKE 1 is outside the block (R262). -/
def turnProgram (c : Config) (t : Turn) (rest : HostProgram) : HostProgram :=
  .op (.irqDisable 5#3) <| .read (.schTake .n) fun n => .op (.schTake .m) <| .op (.irqEnable 5#3) <|
    if n.asFlag then pollBusProgram c t.answer <| cmdWhen c t.pollCommands <| cmdWhen c t.commands rest
    else cmdWhen c t.commands rest

/-- The loop, as many turns as are asked for: it never ends (R253), so every finite part of it is such a program. -/
def loopProgram (c : Config) : List Turn → HostProgram
  | [] => .done
  | t :: turns => turnProgram c t (loopProgram c turns)

/-- The reference host from reset: its start-up, then turns of its loop (`70_reset_and_hazards.md` R310). -/
def referenceProgram (c : Config) (turns : List Turn) : HostProgram :=
  .ops (opsStartUp c) (loopProgram c turns)

end Sys2Proof.Machine
end

