-- ==== Sys2Proof/Laws/Reference.lean ====
section
/-!
SUPPORT. The reference host: a program that uses no result runs as its list of operations, and SCH.CMD with no handler
in between runs as the list of operations that the values of its state make.
-/

namespace Sys2Proof.Machine

variable {s t : State}

theorem andThen_assoc (o : Out) (k l : State → Out) :
    andThen (andThen o k) l = andThen o fun s => andThen (k s) l := by
  cases o <;> rfl

theorem andThen_congr {o : Out} {k l : State → Out} (h : ∀ t, o = .next t → k t = l t) :
    andThen o k = andThen o l := by
  cases o with
  | next t => exact h t rfl
  | fault f => rfl
  | refused r => rfl

theorem runOps_append (a b : List Instr) (s : State) : runOps (a ++ b) s = andThen (runOps a s) (runOps b) := by
  induction a generalizing s with
  | nil => rfl
  | cons i is ih => exact (andThen_congr fun t _ => ih t).trans (andThen_assoc _ _ _).symm

/-- Operations whose results are not used run as their list does. -/
theorem run_ops (is : List Instr) (p : HostProgram) (s : State) :
    (HostProgram.ops is p).run [] s = andThen (runOps is s) (p.run []) := by
  induction is generalizing s with
  | nil => rfl
  | cons i is ih => exact (andThen_congr fun t _ => ih t).trans (andThen_assoc _ _ _).symm

/-- A program whose first operation returns `r` runs as that operation and the list that the rest is with `r`. -/
theorem run_read {i : Instr} {f : HostResult → HostProgram} {r : HostResult} {js : List Instr} {k : State → Out}
    (h : ∀ t, exec i s = .next t → t = s.giveResult r)
    (hrest : exec i s = .next (s.giveResult r) →
      (f r).run [] (s.giveResult r) = andThen (runOps js (s.giveResult r)) k) :
    (HostProgram.read i f).run [] s = andThen (runOps (i :: js) s) k := by
  refine Eq.trans ?_ (andThen_assoc _ _ _).symm
  change andThen (exec i s) _ = _
  refine andThen_congr fun t ht => ?_
  obtain rfl := h t ht
  rw [← hrest ht]
  simp [State.lastResult, State.giveResult]

/-- A program whose first operations return nothing it uses runs as them and the list that the rest is. -/
theorem run_ops_then {is js : List Instr} {p : HostProgram} {k : State → Out}
    (hrest : ∀ t, runOps is s = .next t → p.run [] t = andThen (runOps js t) k) :
    (HostProgram.ops is p).run [] s = andThen (runOps (is ++ js) s) k := by
  rw [run_ops, runOps_append, andThen_assoc]
  exact andThen_congr hrest

theorem pdRead_gives {k : BitVec 3} {c : ChanId} {d : Decoder} (hc : chanOf k = some c) (hd : s.pd = d)
    (h : exec (.pdRead k) s = .next t) : t = s.giveResult (.duty (d.chan c).duty) := by
  subst hd
  obtain ⟨-, h⟩ := hostOp_eq_next.mp h
  obtain ⟨-, h⟩ := withDecoder_eq_next.mp h
  simp only [hc] at h
  split at h
  · exact (Host.Outcome.next.inj h).symm
  · cases h

theorem pdReadshut_gives {d : Decoder} (hd : s.pd = d) (h : exec .pdReadshut s = .next t) :
    t = s.giveResult (.shut d.shutcond) := by
  subst hd
  obtain ⟨-, h⟩ := hostOp_eq_next.mp h
  obtain ⟨-, h⟩ := withDecoder_eq_next.mp h
  split at h
  · exact (Host.Outcome.next.inj h).symm
  · cases h

theorem oriSign_gives (h : exec .oriSign s = .next t) : t = s.giveResult (.sign s.ori.orifilt) := by
  obtain ⟨-, h⟩ := hostOp_eq_next.mp h
  exact (Host.Outcome.next.inj h).symm

theorem guardSource_timer (v : MotVariant) (m : MotorId) :
    ∃ src, sourceOf v (guardSource v m) = some src ∧ (src = .brushed0 ∨ src = .brushed1 ∨ src = .esc) := by
  cases v <;> cases m <;> exact ⟨_, rfl, by decide⟩

/-- MOT.SETBG leaves the decoder as it is. -/
theorem opsSetbg_pd {c : Config} {m : MotorId} {p : Int}
    (h : runOps (opsSetbg c.motVariant m p) s = .next t) (hc : s.cfg = c) : t.pd = s.pd ∧ t.cfg = s.cfg := by
  subst hc
  obtain ⟨src, hs, htm⟩ := guardSource_timer s.cfg.motVariant m
  obtain ⟨u, h1, h⟩ := andThen_eq_next.mp h
  obtain ⟨v, h2, h⟩ := andThen_eq_next.mp h
  obtain ⟨w, h3, h⟩ := andThen_eq_next.mp h
  obtain rfl : w = t := Host.Outcome.next.inj h
  obtain ⟨-, h1⟩ := hostOp_eq_next.mp h1
  simp only [hs] at h1
  obtain rfl := Host.Outcome.next.inj h1
  obtain ⟨-, h2⟩ := hostOp_eq_next.mp h2
  obtain rfl := Host.Outcome.next.inj h2
  obtain ⟨-, src', hs', h3⟩ := execIrqEnable_next h3
  obtain rfl : src' = src := by cases m <;> exact Option.some.inj (hs'.symm.trans hs)
  obtain ⟨u, -, ⟨hu, -⟩, rfl⟩ := serveSource_timer_next htm h3
  rw [hu]
  cases m <;> exact ⟨rfl, rfl⟩

/-- SCH.CMD with no handler in between is the list of operations that the values of its state make. -/
theorem run_cmdProgram (p : HostProgram) (s : State) :
    (cmdProgram s.cfg p).run [] s = andThen (runOps (opsCmd s) s) (p.run []) := by
  unfold cmdProgram opsCmd
  cases hc : s.cfg.cmdSource with
  | fixedProfile =>
    simp only [opsCmdFixed, List.append_assoc, List.cons_append, List.nil_append]
    refine run_read (fun t => oriSign_gives) fun _ => ?_
    exact run_ops_then fun t _ => run_ops_then fun t _ => run_ops [_, _, _] p t
  | pulseDecoded =>
    simp only [opsCmdDecoded, List.append_assoc, List.cons_append, List.nil_append]
    refine run_read (fun t => oriSign_gives) fun _ => ?_
    refine run_read (fun t => pdRead_gives rfl rfl) fun _ => run_read (fun t => pdRead_gives rfl rfl) fun _ => ?_
    refine run_ops_then fun t ht => ?_
    obtain ⟨hp, hc⟩ := opsSetbg_pd ht rfl
    refine run_read (fun u => pdRead_gives rfl hp) fun _ => run_read (fun u => pdRead_gives rfl hp) fun _ => ?_
    refine run_ops_then fun u hu => ?_
    obtain ⟨hq, -⟩ := opsSetbg_pd hu hc
    refine run_read (fun v => pdRead_gives rfl (hq.trans hp)) fun _ => ?_
    refine run_ops_then (is := [_]) fun v hv => ?_
    have hv' : v.pd = s.pd := by
      obtain ⟨w, hv, hw⟩ := andThen_eq_next.mp hv
      obtain ⟨-, hv⟩ := hostOp_eq_next.mp hv
      obtain rfl := Host.Outcome.next.inj hv
      obtain rfl := Host.Outcome.next.inj hw
      exact hq.trans hp
    refine run_read (fun w => pdReadshut_gives hv') fun _ => ?_
    exact run_ops [_, _] p _

/-- A turn that polls and performs both SCH.CMD is SCH.POLLACC and then SCH.CMD (R253). -/
theorem turn_polls (c : Config) (a : PollAnswer) (rest : HostProgram) :
    turnProgram c ⟨a, true, true⟩ rest =
      .op (.irqDisable 5#3) (.read (.schTake .n) fun n => .op (.schTake .m) (.op (.irqEnable 5#3)
        (if n.asFlag then pollProgram c a (cmdProgram c rest) else cmdProgram c rest))) := rfl

end Sys2Proof.Machine
end

