-- ==== Sys2Proof/Machine/Register.lean ====
section
/-!
DEFINITION. The register face of the bus controller, as writes (`30_encoding.md` R106 to R111; the reads are in
`Sys2Proof/Machine/Flags.lean`): what each bit of `BUSCTL` does when it is written, and each action as its writes. The
block itself acts at action level (`act`), which the spec prefers (R111, `10_state.md` R32); `Sys2Proof/Laws/Register.lean`
proves that the two agree where the driver acts.
-/

namespace Sys2Proof.Machine

/-- The bits of `BUSCTL` (R107); bits 3 and 1 are reserved. -/
structure BusCtl where
  /-- bit 7, `INT`: clear the pending event and let the engine go on -/
  int : Bool
  /-- bit 6, `ACKEN`: auto-acknowledge armed -/
  acken : Bool
  /-- bit 5, `STA`: request a start condition -/
  sta : Bool
  /-- bit 4, `STO`: request a stop condition -/
  sto : Bool
  /-- bit 2, `EN`: bus controller enabled -/
  en : Bool
  /-- bit 0, `IE`: bus interrupt enable -/
  ie : Bool
deriving DecidableEq, Repr

/-- The bits of a `BUSCTL` value (R107). -/
def BusCtl.ofByte (v : Byte) : BusCtl :=
  ⟨v.getLsbD 7, v.getLsbD 6, v.getLsbD 5, v.getLsbD 4, v.getLsbD 2, v.getLsbD 0⟩

/-- The bits of R110's last column, for each action. -/
def Action.bits (a : Action) (ackarm : Bool) : BusCtl :=
  match a with
  | .start => ⟨true, false, true, false, true, true⟩
  | .tx _ => ⟨true, false, false, false, true, true⟩
  | .rxArm k => ⟨true, k, false, false, true, true⟩
  | .stop => ⟨true, false, false, true, true, true⟩
  | .rearm => ⟨true, ackarm, false, false, true, true⟩

/-- The request the engine has after a write of `BUSCTL` (R107, R111). `STA` and `STO` ask for a condition. With neither,
`INT` lets the engine go on: with the request it still has, or, if it has none, with the byte written to `BUSDATA`
since the last event, `sent`, or in a read with the next byte, returning the acknowledge `ACKEN` says. (Where `STA` and
`STO` are both written, `STA` is taken, and a write without `INT` leaves the request: log 31.) -/
def BusCtl.request (c : BusCtl) (sent : Option Byte) (e : Engine) : EngReq :=
  if c.sta then .start
  else if c.sto then .stop
  else if c.int then
    if e.openRequest ≠ .none then e.openRequest
    else
      match sent with
      | some b => .tx b
      | none => if e.phase = .mr then .rx c.acken else .none
  else e.req

/-- A write of `BUSCTL` (R107), bit by bit: `INT` clears the pending event, `ACKEN` is `ackarm`, `STA` and `STO` request
a condition, `IE` is `irqen[0]`, and the reserved bits read as 0. `EN` is kept in the register; what a controller that
is not enabled does is in no rule (log 31). -/
def State.writeBusCtl (v : Byte) (sent : Option Byte) (s : State) : State :=
  let c := BusCtl.ofByte v
  { s with
    eng := { s.eng with
      req := c.request sent s.eng
      evt := if c.int then none else s.eng.evt
      busctl := v &&& 0xF5#8 }
    bus := { s.bus with ackarm := c.acken }
    irq := s.irq.setEn .bus c.ie }

/-- A write of `BUSDATA` places the byte the next transmit action sends (R109). -/
def State.writeBusData (b : Byte) (s : State) : State := { s with eng := { s.eng with busdata := b } }

/-- A write of `BUSDIV` (R106). -/
def State.writeBusDiv (v : Byte) (s : State) : State :=
  { s with bus := { s.bus with busdiv := v, busdivSet := true } }

/-- `EN` as it was last written (R107). -/
def State.busEnabled (s : State) : Bool := (BusCtl.ofByte s.eng.busctl).en

/-- The byte an action writes to `BUSDATA` first (R110). -/
def Action.sent (a : Action) : Option Byte :=
  match a with
  | .tx b => some b
  | .start => none
  | .rxArm _ => none
  | .stop => none
  | .rearm => none

/-- An action as the register writes it is: `BUSDATA` where a byte is sent, then `BUSCTL` (R110). -/
def registerAct (a : Action) (s : State) : State :=
  match a.sent with
  | some b => (s.writeBusData b).writeBusCtl (a.ctl s.bus.ackarm) (some b)
  | none => s.writeBusCtl (a.ctl s.bus.ackarm) none

end Sys2Proof.Machine
end

