-- ==== Sys2Proof/Laws/Register.lean ====
section
/-!
SUPPORT. The register face of the bus controller: what each bit of a `BUSCTL` write does, and that an action and its
register writes have the same effect where the driver acts (`30_encoding.md` R107, R110, R111).
-/

namespace Sys2Proof.Machine

variable {s : State} {v : Byte} {sent : Option Byte}

@[simp] theorem writeBusCtl_evt :
    (s.writeBusCtl v sent).eng.evt = if (BusCtl.ofByte v).int then none else s.eng.evt := rfl
@[simp] theorem writeBusCtl_ackarm : (s.writeBusCtl v sent).bus.ackarm = (BusCtl.ofByte v).acken := rfl
@[simp] theorem writeBusCtl_enBus : (s.writeBusCtl v sent).irq.en .bus = (BusCtl.ofByte v).ie := rfl
@[simp] theorem writeBusCtl_req :
    (s.writeBusCtl v sent).eng.req = (BusCtl.ofByte v).request sent s.eng := rfl
@[simp] theorem writeBusCtl_busctl : (s.writeBusCtl v sent).eng.busctl = v &&& 0xF5#8 := rfl
@[simp] theorem writeBusData_busdata (b : Byte) : (s.writeBusData b).eng.busdata = b := rfl
@[simp] theorem writeBusDiv_read (b : Byte) : (s.writeBusDiv b).readBusDiv = b := rfl

/-- The values of R110 have the bits of R110. -/
@[simp] theorem ofByte_ctl (a : Action) (k : Bool) : BusCtl.ofByte (a.ctl k) = a.bits k := by
  have h : ∀ p : Bool, BusCtl.ofByte (if p then 0xC5#8 else 0x85#8) = ⟨true, p, false, false, true, true⟩ := by decide
  cases a with
  | start => show BusCtl.ofByte 0xA5#8 = _; rfl
  | tx b => exact h false
  | rxArm k => exact h k
  | stop => show BusCtl.ofByte 0x95#8 = _; rfl
  | rearm => exact h k

/-- The values of R110 write 0 to the reserved bits. -/
@[simp] theorem ctl_reserved (a : Action) (k : Bool) : a.ctl k &&& 0xF5#8 = a.ctl k := by
  have h : ∀ p : Bool, (if p then 0xC5#8 else 0x85#8 : Byte) &&& 0xF5#8 = if p then 0xC5#8 else 0x85#8 := by decide
  cases a with
  | start => show 0xA5#8 &&& 0xF5#8 = 0xA5#8; rfl
  | tx b => exact h false
  | rxArm k => exact h k
  | stop => show 0x95#8 &&& 0xF5#8 = 0x95#8; rfl
  | rearm => exact h k

/-- The acknowledge the action writes is the one that stands: the handler of a read sets `ackarm` before it arms the
receiver (`40_bus_driver.md` R144, R146), and elsewhere it is clear. -/
def AckAgrees (a : Action) (s : State) : Prop := (a.bits s.bus.ackarm).acken = s.bus.ackarm

/-- What the engine tells the actions apart by (R111): a transmit comes to an engine that has carried out its request, an
arming to one that has done so in a read, a re-arm to one whose request is open, or that is in no read. -/
def ToldApart (a : Action) (e : Engine) : Prop :=
  match a with
  | .start => True
  | .stop => True
  | .tx _ => e.req = .none
  | .rxArm _ => e.req = .none ∧ e.phase = .mr
  | .rearm => e.req ≠ .none ∨ e.phase ≠ .mr

/-- The request of an action is the one its register writes make. -/
theorem bits_request {a : Action} {e : Engine} {k : Bool} (he : e.evt = none) (ht : ToldApart a e) :
    (a.bits k).request a.sent e = a.request e.req := by
  have ho : e.openRequest = e.req := by simp [Engine.openRequest, he]
  cases a <;> simp only [ToldApart] at ht <;>
    simp [BusCtl.request, Action.bits, Action.request, Action.sent, ho, ht]
  intro h
  rw [if_neg (ht.resolve_left fun hn => hn h), h]

/-- Where the driver acts, with its source enabled, an action is its register writes (R110). -/
theorem registerAct_eq_act {a : Action} (he : s.eng.evt = none) (hi : s.irq.enBus = true) (hk : AckAgrees a s)
    (ht : ToldApart a s.eng) : registerAct a s = act a s := by
  have hq : s.irq.setEn .bus true = s.irq := by simp [Irq.setEn, ← hi]
  have hie : (a.bits s.bus.ackarm).ie = true := by cases a <;> rfl
  have hint : (a.bits s.bus.ackarm).int = true := by cases a <;> rfl
  have key : ∀ b, b = a.data s.eng.busdata →
      State.writeBusCtl (a.ctl s.bus.ackarm) a.sent { s with eng := { s.eng with busdata := b } } = act a s := by
    rintro _ rfl
    have hr := bits_request (k := s.bus.ackarm) he ht
    simp only [State.writeBusCtl, act, ofByte_ctl, ctl_reserved, hint, hie, hq, if_true]
    rw [hk, ← hr]
    rfl
  cases a with
  | tx b => exact key b rfl
  | start => exact key _ rfl
  | rxArm k => exact key _ rfl
  | stop => exact key _ rfl
  | rearm => exact key _ rfl

/-- `ackarm` is set only while several bytes are still to be received, so that no other action meets it set. -/
abbrev AckInv (s : State) : Prop := s.bus.ackarm = true → s.bus.link = .receivePhaseMulti

/-- Every handler of a listed event keeps it (R136 to R149). -/
theorem handleCode_ackInv {c : BusCode} {d : Option Byte} {t : State} (hc : busContext c s.bus = true) (hs : AckInv s)
    (h : handleCode c d s = .next t) : AckInv t := by
  have off : s.bus.link ≠ .receivePhaseMulti → s.bus.ackarm = false := fun hl => by simpa using mt hs hl
  cases c <;> simp only [handleCode] at h <;> simp only [busContext, Bool.and_eq_true, decide_eq_true_eq] at hc
  case start | rstart =>
    obtain rfl := Host.Outcome.next.inj h
    simp [AckInv, off (by simp [hc.2.1])]
  case slawNack | txdNack | slarNack =>
    obtain rfl := Host.Outcome.next.inj h
    simp [AckInv, off (by simp [hc.2.2])]
  case slawAck | txdAck =>
    obtain ⟨-, ⟨-, -, v, w, -, rfl, rfl⟩ | ⟨-, rfl⟩⟩ := handleSendAck_next h <;>
      simp [AckInv, off (by simp [hc.2.2])]
  case slarAck =>
    obtain ⟨-, ⟨-, rfl⟩ | ⟨-, u, rfl, rfl⟩⟩ := handleSlarAck_next h <;> simp [AckInv]
  case rxdAck =>
    obtain ⟨v, w, -, -, -, rfl, ⟨-, rfl⟩ | ⟨-, rfl⟩⟩ := handleRxdAck_next h <;> simp [AckInv, hc.2.2]
  case rxdNack =>
    obtain ⟨v, -, -, -, rfl⟩ := handleRxdNack_next h
    simp [AckInv, off (by simp [hc.2.2])]

end Sys2Proof.Machine
end

