-- ==== Sys2Proof/Tests/Slice0.lean ====
section
/-!
SUPPORT. The model's own tests. Expected values are those of `95_test_vectors.md` (the vector is named) or computed by
hand from the rule named; no expected value was read off the model.
-/

namespace Sys2Proof.Tests

open Sys2Proof Sys2Proof.Machine

/-! ### Helpers -/

/-- The outcome is a next state with the property. -/
def nextIs (o : Out) (p : State → Bool) : Bool :=
  match o with
  | .next t => p t
  | .fault _ => false
  | .refused _ => false

/-- The outcome is this refusal. -/
def refusedAs (o : Out) (r : Refusal) : Bool :=
  match o with
  | .next _ => false
  | .fault _ => false
  | .refused q => decide (q = r)

/-- EX1 with motor variant A. -/
def exA : Config := { Config.ex1 with motVariant := .a }

/-- EX1 without the decoder. -/
def exFixed : Config := { Config.ex1 with cmdSource := .fixedProfile }

/-- After BUS.INIT 50000, idle. -/
def idle : State :=
  { State.reset with
    bus := { Bus.reset with busdiv := 152#8, busdivSet := true }
    irq := { Irq.reset with enBus := true } }

/-- A transaction in flight. -/
def flying (d : Dir) (l : LinkState) (len cur : BitVec 5) (buf : Memory) (ackarm : Bool) (req : EngReq)
    (ph : EngPhase) : State :=
  { idle with
    bus := { idle.bus with busy := true, link := l, dir := d, buf := buf, len := len, cur := cur, ackarm := ackarm }
    eng := { Engine.reset with req := req, phase := ph, owned := decide (l ≠ .idle) }
    blocked := match d with | .send => .inSend | .receive => .inRecv }

/-- B2 after BUS.SEND. -/
def sendEntered : State := flying .send .idle 1#5 0#5 [(0, 0x2A#8)] false .start .afterStart

/-- B2 after EV.START. -/
def sendAddressed : State := flying .send .addressPhase 1#5 0#5 [(0, 0x2A#8)] false (.tx 0x3A#8) .afterStart

/-- B2 after EV.SLAW_ACK. -/
def sendLast : State := flying .send .transmitPhase 1#5 1#5 [(0, 0x2A#8)] false (.tx 0x2A#8) .mt

/-- B5 after EV.SLAW_ACK: one byte is left. -/
def sendMore : State := flying .send .transmitPhase 2#5 1#5 [(0, 0x2A#8), (1, 0x01#8)] false (.tx 0x2A#8) .mt

/-- B6 after EV.START. -/
def recvOne : State := flying .receive .addressPhase 1#5 0#5 [] false (.tx 0x3B#8) .afterStart

/-- B7 after EV.START. -/
def recvThree : State := flying .receive .addressPhase 3#5 0#5 [] false (.tx 0x3B#8) .afterStart

/-- B7 after EV.SLAR_ACK. -/
def recvMulti : State := flying .receive .receivePhaseMulti 3#5 0#5 [] true (.rx true) .mr

/-- B7 after EV.RXD_ACK 0x11. -/
def recvTwoLeft : State := flying .receive .receivePhaseMulti 3#5 1#5 [(0, 0x11#8)] true (.rx true) .mr

/-- B6 after EV.SLAR_ACK. -/
def recvLast : State := flying .receive .receivePhaseLast 1#5 0#5 [] false (.rx false) .mr

/-- The same state with the bus source disabled. -/
def masked (s : State) : State := { s with irq := { s.irq with enBus := false } }

/-- The success step has run; the stop is on its way. -/
def stopping : State :=
  { sendLast with
    bus := { sendLast.bus with busy := false, link := .stopPending, outcome := .acked }
    eng := { sendLast.eng with req := .stop } }

/-- The stop has been put on the wires; the host is still inside its call. -/
def stopped (b : Blocked) (o : TxOutcome) : State :=
  { idle with
    bus := { idle.bus with outcome := o, dir := (match b with | .inRecv => .receive | _ => .send), len := 1#5,
                           cur := 1#5, buf := [(0, 0xA7#8)] }
    blocked := b }

/-- A machine with the decoder just before the end of its windows: `n` high samples so far on channels 0 and 4. -/
def sampling (n : Word16) : State :=
  { idle with
    pd := { Decoder.reset with
      c0 := { Chan.reset with num := n, den := 63#16 }
      c4 := { Chan.reset with num := n, den := 399#16 } }
    irq := { idle.irq with enSampler := true } }

/-- Commands written, motor and ESC sources enabled, in configuration `c`. -/
def driven (c : Config) (p0 p1 : Word16) : State :=
  { State.resetWith c with
    mot0 := { Motor.reset with power := p0, powerLoSet := true, powerHiSet := true, offthrSet := true }
    mot1 := { Motor.reset with power := p1, powerLoSet := true, powerHiSet := true, offthrSet := true }
    esc := { Esc.reset with escpowerSet := true, escshutSet := true, escwidth := 2000#16, escwidthSet := true }
    irq := { Irq.reset with enBrushed0 := true, enBrushed1 := true, enEsc := true, enDisplay := true } }

/-- Every duty byte and the shutdown condition published. -/
def published (d0 d1 d2 d3 t : Byte) (sg : Sign) : State :=
  { State.reset with
    pd := { c0 := { Chan.reset with duty := d0, dutySet := true }
            c1 := { Chan.reset with duty := d1, dutySet := true }
            c2 := { Chan.reset with duty := d2, dutySet := true }
            c3 := { Chan.reset with duty := d3, dutySet := true }
            c4 := { Chan.reset with duty := t, dutySet := true }
            shutcond := true, shutcondSet := true, lines := 0#5 }
    ori := { Ori.reset with orifilt := sg } }

/-! ### Well-formedness: one ill-formed term for each check (`30_encoding.md` R98, R103) -/

theorem test_illFormed_busSend_empty : (Instr.busSend []).wellFormed Config.ex1 = false := by decide
theorem test_illFormed_busSend_17 :
    (Instr.busSend (List.replicate 17 0#8)).wellFormed Config.ex1 = false := by decide
theorem test_illFormed_busRecv_0 : (Instr.busRecv 0#8).wellFormed Config.ex1 = false := by decide
theorem test_illFormed_busRecv_17 : (Instr.busRecv 17#8).wellFormed Config.ex1 = false := by decide
theorem test_illFormed_evOther_listed : (Instr.evOther 0x0B#8).wellFormed Config.ex1 = false := by decide
theorem test_illFormed_pdTick_fixed : (Instr.pdTick 1#5).wellFormed exFixed = false := by decide
theorem test_illFormed_pdRead_fixed : (Instr.pdRead 0#3).wellFormed exFixed = false := by decide
theorem test_illFormed_pdRead_5 : (Instr.pdRead 5#3).wellFormed Config.ex1 = false := by decide
theorem test_illFormed_pdReadshut_fixed : Instr.pdReadshut.wellFormed exFixed = false := by decide
theorem test_illFormed_motOn_b : (Instr.motOn .m0).wellFormed Config.ex1 = false := by decide
theorem test_illFormed_motOvf_a : Instr.motOvf.wellFormed exA = false := by decide
theorem test_illFormed_tmrTick_3 : (Instr.tmrTick 3#2).wellFormed exA = false := by decide
theorem test_illFormed_tmrTick_1_b : (Instr.tmrTick 1#2).wellFormed Config.ex1 = false := by decide
theorem test_illFormed_irqDisable_6 : (Instr.irqDisable 6#3).wellFormed exA = false := by decide
theorem test_illFormed_irqEnable_3_b : (Instr.irqEnable 3#3).wellFormed Config.ex1 = false := by decide

/-! ### Decoding: one word of every row, written out from `30_encoding.md` R96 (E-vectors where there is one) -/

theorem test_decode_busInit : decode [0x00#8, 0x00#8, 0x50#8, 0xC3#8, 0x00#8, 0x00#8] =
    .instr (.busInit 50000#32) 6 [] := by decide
theorem test_decode_busSend : decode [0x02#8, 0x01#8, 0x2A#8, 0x01#8, 0xFF#8] =
    .instr (.busSend [0x2A#8, 0x01#8]) 4 [0xFF#8] := by decide
theorem test_decode_busRecv : decode [0x06#8, 0x02#8] = .instr (.busRecv 6#8) 2 [] := by decide
theorem test_decode_busRet : decode [0x00#8, 0x03#8] = .instr .busRet 2 [] := by decide
theorem test_decode_evStart : decode [0x0B#8, 0x10#8] = .instr .evStart 2 [] := by decide
theorem test_decode_evRstart : decode [0x10#8, 0x10#8] = .instr .evRstart 2 [] := by decide
theorem test_decode_evSlawAck : decode [0x18#8, 0x10#8] = .instr .evSlawAck 2 [] := by decide
theorem test_decode_evSlawNack : decode [0x20#8, 0x10#8] = .instr .evSlawNack 2 [] := by decide
theorem test_decode_evTxdAck : decode [0x28#8, 0x10#8] = .instr .evTxdAck 2 [] := by decide
theorem test_decode_evTxdNack : decode [0x30#8, 0x10#8] = .instr .evTxdNack 2 [] := by decide
theorem test_decode_evSlarAck : decode [0x40#8, 0x10#8] = .instr .evSlarAck 2 [] := by decide
theorem test_decode_evSlarNack : decode [0x48#8, 0x10#8] = .instr .evSlarNack 2 [] := by decide
theorem test_decode_evRxdAck : decode [0x50#8, 0x10#8, 0x7F#8] = .instr (.evRxdAck 0x7F#8) 3 [] := by decide
theorem test_decode_evRxdNack : decode [0x58#8, 0x10#8, 0xC0#8] = .instr (.evRxdNack 0xC0#8) 3 [] := by decide
theorem test_decode_evOther : decode [0x60#8, 0x10#8] = .instr (.evOther 0x60#8) 2 [] := by decide
theorem test_decode_evStopdone : decode [0x00#8, 0x11#8] = .instr .evStopdone 2 [] := by decide
theorem test_decode_pdTick : decode [0x19#8, 0x20#8] = .instr (.pdTick 0b11001#5) 2 [] := by decide
theorem test_decode_pdRead : decode [0x04#8, 0x21#8] = .instr (.pdRead 4#3) 2 [] := by decide
theorem test_decode_pdReadshut : decode [0x00#8, 0x22#8] = .instr .pdReadshut 2 [] := by decide
theorem test_decode_motSetb : decode [0x01#8, 0x30#8, 0xD4#8, 0xFE#8] = .instr (.motSetb .m1 0xFED4#16) 4 [] := by
  decide
theorem test_decode_motSete : decode [0x80#8, 0x31#8] = .instr (.motSete 128#8) 2 [] := by decide
theorem test_decode_motShut : decode [0x01#8, 0x32#8] = .instr (.motShut true) 2 [] := by decide
theorem test_decode_motRecomp : decode [0x00#8, 0x33#8] = .instr .motRecomp 2 [] := by decide
theorem test_decode_motOn : decode [0x01#8, 0x34#8] = .instr (.motOn .m1) 2 [] := by decide
theorem test_decode_motOff : decode [0x01#8, 0x35#8] = .instr (.motOff .m1) 2 [] := by decide
theorem test_decode_motOvf : decode [0x00#8, 0x36#8] = .instr .motOvf 2 [] := by decide
theorem test_decode_escAssert : decode [0x00#8, 0x37#8] = .instr .escAssert 2 [] := by decide
theorem test_decode_escDeassert : decode [0x00#8, 0x38#8] = .instr .escDeassert 2 [] := by decide
theorem test_decode_tmrTick : decode [0x02#8, 0x39#8] = .instr (.tmrTick 2#2) 2 [] := by decide
theorem test_decode_motSetbl : decode [0x00#8, 0x3A#8, 0x9C#8] = .instr (.motSetbl .m0 0x9C#8) 3 [] := by decide
theorem test_decode_motSetbh : decode [0x01#8, 0x3B#8, 0xFF#8] = .instr (.motSetbh .m1 0xFF#8) 3 [] := by decide
theorem test_decode_oriUpdate : decode [0x00#8, 0x40#8, 0x01#8, 0x02#8, 0x03#8, 0x04#8, 0x05#8, 0xC0#8] =
    .instr (.oriUpdate 0x01#8 0x02#8 0x03#8 0x04#8 0x05#8 0xC0#8) 8 [] := by decide
theorem test_decode_oriSign : decode [0x00#8, 0x41#8] = .instr .oriSign 2 [] := by decide
theorem test_decode_schDtick : decode [0x00#8, 0x50#8] = .instr .schDtick 2 [] := by decide
theorem test_decode_irqDisable : decode [0x05#8, 0x51#8] = .instr (.irqDisable 5#3) 2 [] := by decide
theorem test_decode_irqEnable : decode [0x06#8, 0x52#8] = .instr (.irqEnable 6#3) 2 [] := by decide
theorem test_decode_schTake : decode [0x01#8, 0x53#8] = .instr (.schTake .m) 2 [] := by decide

/-- E24 to E30: reserved words. -/
theorem test_decode_reserved :
    [[0x01#8, 0x00#8], [0x20#8, 0x20#8], [0x00#8, 0x04#8], [0x00#8, 0x3C#8], [0x00#8, 0x60#8], [0x02#8, 0x30#8],
      [0x08#8, 0x51#8]].map decode =
    [.reserved 0x0001#16, .reserved 0x2020#16, .reserved 0x0400#16, .reserved 0x3C00#16, .reserved 0x6000#16,
      .reserved 0x3002#16, .reserved 0x5108#16] := by decide

/-! ### One step of each operation -/

/-- B1. -/
theorem test_busInit : nextIs (exec (.busInit 49844#32) State.reset) fun t =>
    t.readBusDiv == 152#8 && t.irq.enBus && t.bus.busdivSet := by decide
theorem test_busInit_tooSlow : refusedAs (exec (.busInit 30303#32) State.reset) .clockTooSlow := by decide
/-- B2, first row. -/
theorem test_busSend : nextIs (exec (.busSend [0x2A#8]) idle) fun t =>
    t.bus.busy && t.eng.req == .start && t.bus.buf == [(0, 0x2A#8)] && t.blocked == .inSend &&
      t.eng.busctl == 0xA5#8 := by decide
/-- B10. -/
theorem test_busSend_uninitialised :
    refusedAs (exec (.busSend [0x00#8]) State.reset) (.unspecifiedField .busdiv) := by decide
/-- B6, first row. -/
theorem test_busRecv : nextIs (exec (.busRecv 16#8) idle) fun t =>
    t.bus.dir == .receive && t.bus.len == 16#5 && t.bus.cur == 0#5 && t.blocked == .inRecv := by decide
/-- B6, last row. -/
theorem test_busRet : nextIs (exec .busRet (stopped .inRecv .acked)) fun t =>
    t.results == [.received (some [0xA7#8])] && t.blocked == .none := by decide
theorem test_busRet_aborted : nextIs (exec .busRet (stopped .inSend .nackAbort)) fun t =>
    t.results == [.sent false] := by decide
/-- B2. -/
theorem test_evStart : nextIs (exec .evStart sendEntered) fun t =>
    t.bus.link == .addressPhase && t.eng.req == .tx 0x3A#8 && t.buslog == [.s] && t.eng.busdata == 0x3A#8 := by
  decide
/-- B10: the hang. -/
theorem test_evStart_held : nextIs (exec .evStart (masked sendEntered)) fun t =>
    t.bus.link == .idle && t.buslog == [.s] && t.readBusStat == 0x08#8 && t.eng.busctl == 0#8 := by decide
/-- R138: a repeated start is handled as a start. -/
theorem test_evRstart : nextIs (exec .evRstart sendEntered) fun t =>
    t.bus.link == .addressPhase && t.eng.req == .tx 0x3A#8 && t.buslog == [.sr] := by decide
/-- B2. -/
theorem test_evSlawAck : nextIs (exec .evSlawAck sendAddressed) fun t =>
    t.bus.link == .transmitPhase && t.bus.cur == 1#5 && t.eng.req == .tx 0x2A#8 &&
      t.buslog == [.byte 0x3A#8 false] := by decide
/-- B4. -/
theorem test_evSlawNack : nextIs (exec .evSlawNack sendAddressed) fun t =>
    t.bus.outcome == .nackAbort && !t.bus.busy && t.bus.link == .stopPending && t.bus.buf == [] &&
      t.buslog == [.byte 0x3A#8 true] && t.bus.len == 1#5 := by decide
/-- B2. -/
theorem test_evTxdAck : nextIs (exec .evTxdAck sendLast) fun t =>
    t.bus.link == .stopPending && t.bus.outcome == .acked && t.eng.req == .stop && t.eng.busctl == 0x95#8 := by
  decide
/-- B5. -/
theorem test_evTxdAck_more : nextIs (exec .evTxdAck sendMore) fun t =>
    t.bus.link == .transmitPhase && t.bus.cur == 2#5 && t.eng.req == .tx 0x01#8 := by decide
theorem test_evTxdNack : nextIs (exec .evTxdNack sendMore) fun t =>
    t.bus.outcome == .nackAbort && t.buslog == [.byte 0x2A#8 true] := by decide
/-- B6. -/
theorem test_evSlarAck : nextIs (exec .evSlarAck recvOne) fun t =>
    t.bus.link == .receivePhaseLast && t.eng.req == .rx false && !t.bus.ackarm := by decide
/-- B7. -/
theorem test_evSlarAck_multi : nextIs (exec .evSlarAck recvThree) fun t =>
    t.bus.link == .receivePhaseMulti && t.eng.req == .rx true && t.eng.busctl == 0xC5#8 := by decide
/-- B8. -/
theorem test_evSlarNack : nextIs (exec .evSlarNack recvOne) fun t =>
    t.buslog == [.byte 0x3B#8 true] && t.bus.outcome == .nackAbort := by decide
/-- B7. -/
theorem test_evRxdAck : nextIs (exec (.evRxdAck 0x11#8) recvMulti) fun t =>
    t.bus.buf == [(0, 0x11#8)] && t.bus.cur == 1#5 && t.bus.link == .receivePhaseMulti := by decide
theorem test_evRxdAck_last : nextIs (exec (.evRxdAck 0x22#8) recvTwoLeft) fun t =>
    t.bus.buf == [(0, 0x11#8), (1, 0x22#8)] && t.bus.link == .receivePhaseLast && t.eng.req == .rx false := by decide
/-- B6. -/
theorem test_evRxdNack : nextIs (exec (.evRxdNack 0xA7#8) recvLast) fun t =>
    t.bus.buf == [(0, 0xA7#8)] && t.bus.outcome == .acked && t.buslog == [.byte 0xA7#8 true] := by decide
/-- R151 with R278: held on the disabled source, the request standing over (log 10). -/
theorem test_evOther_held : nextIs (exec (.evOther 0x3F#8) (masked sendEntered)) fun t =>
    t.eng.req == .none && t.eng.standby == .start && t.readBusStat == 0x38#8 && t.bus == sendEntered.bus := by decide
/-- B10. -/
theorem test_evRxdNack_refused : refusedAs (exec (.evRxdNack 0x00#8) recvMulti) .outOfContract := by decide
/-- B9. -/
theorem test_evOther : nextIs (exec (.evOther 0x38#8) sendLast) fun t =>
    t.bus == sendLast.bus && t.eng.req == .tx 0x2A#8 && t.buslog == [] := by decide
/-- B2. -/
theorem test_evStopdone : nextIs (exec .evStopdone stopping) fun t =>
    t.bus.link == .idle && t.eng.req == .none && t.buslog == [.p] && !t.eng.owned := by decide
/-- D1: 32 of 64 samples high; 32 of 400 by R173: `12 * 255 div 20`. -/
theorem test_pdTick : nextIs (exec (.pdTick 0b00000#5) (sampling 32#16)) fun t =>
    t.pd.c0.duty == 127#8 && t.pd.c0.den == 0#16 && t.pd.c4.duty == 153#8 && !t.pd.shutcond := by decide
/-- D2: 9 of 400 samples high. -/
theorem test_pdTick_shut : nextIs (exec (.pdTick 0b10000#5) (sampling 8#16)) fun t =>
    t.pd.c4.duty == 0#8 && t.pd.shutcond && t.pd.c1.den == 1#16 && !t.pd.c1.dutySet := by decide
theorem test_pdRead : nextIs (exec (.pdRead 2#3) (published 1#8 2#8 3#8 4#8 5#8 .zero)) fun t =>
    t.results == [.duty 3#8] := by decide
/-- D3. -/
theorem test_pdRead_early : refusedAs (exec (.pdRead 4#3) idle) (.unspecifiedField (.duty .c4)) := by decide
theorem test_pdReadshut : nextIs (exec .pdReadshut (published 1#8 2#8 3#8 4#8 5#8 .zero)) fun t =>
    t.results == [.shut true] := by decide
/-- M1. -/
theorem test_motSetb : nextIs (exec (.motSetb .m1 0x8000#16) State.reset) fun t =>
    t.mot1.power == 0xFF01#16 && t.mot0 == Motor.reset := by decide
theorem test_motSetb_256 : nextIs (exec (.motSetb .m0 256#16) State.reset) fun t =>
    t.mot0.power == 255#16 && t.mot0.powerSet := by decide
theorem test_motSete : nextIs (exec (.motSete 200#8) State.reset) fun t =>
    t.esc.escpower == 200#8 && t.esc.escpowerSet && t.esc.escwidth == 0#16 := by decide
theorem test_motShut : nextIs (exec (.motShut true) State.reset) fun t =>
    t.esc.escshut && t.esc.escshutSet := by decide
/-- M3. -/
theorem test_motRecomp_a : nextIs (exec .motRecomp (driven exA 0xFF9C#16 252#16)) fun t =>
    t.mot0.offthr == 400#16 && t.mot1.offthr == 1008#16 && t.esc.escwidth == 2000#16 := by decide
theorem test_motRecomp_b : nextIs (exec .motRecomp (driven Config.ex1 0xFF9C#16 252#16)) fun t =>
    t.mot0.offthr == 100#16 && t.mot1.offthr == 252#16 := by decide
/-- M4. -/
theorem test_motOn : nextIs (exec (.motOn .m1) (driven exA 0#16 0xFF9C#16)) fun t =>
    !t.mot1.pinA && t.mot1.pinB && t.mot0 == (driven exA 0#16 0xFF9C#16).mot0 := by decide
theorem test_motOn_margin : nextIs (exec (.motOn .m0) (driven exA 3#16 0#16)) fun t => t.pinlog == [] := by decide
theorem test_motOff : nextIs (exec (.motOff .m0) (driven Config.ex1 251#16 0#16)) fun t =>
    t.mot0.pinA && t.mot0.pinB && t.pinlog == [.motor .m0 true true] := by decide
theorem test_motOff_full : nextIs (exec (.motOff .m0) (driven Config.ex1 252#16 0#16)) fun t =>
    t.pinlog == [] := by decide
theorem test_motOvf : nextIs (exec .motOvf (driven Config.ex1 100#16 0xFF01#16)) fun t =>
    t.pinlog == [.motor .m0 true false, .motor .m1 false true] := by decide
theorem test_escAssert : nextIs (exec .escAssert (driven Config.ex1 0#16 0#16)) fun t =>
    t.esc.pinesc && t.pinlog == [.esc true] := by decide
theorem test_escDeassert : nextIs (exec .escDeassert (driven Config.ex1 0#16 0#16)) fun t =>
    !t.esc.pinesc && t.esc.pinescSet := by decide
/-- M5, tick 1: the overflow, then MOT.OFF 0 and MOT.OFF 1 at count 0 (thresholds 0). -/
theorem test_tmrTick :
    nextIs (exec (.tmrTick 0#2) { driven Config.ex1 100#16 0#16 with tmr := ⟨255#16, 0#16, 0#16⟩ }) fun t =>
      t.tmr.tcnt0 == 0#16 &&
        t.pinlog == [.motor .m0 true false, .motor .m0 true true, .motor .m1 true true] := by decide
/-- M10. -/
theorem test_tmrTick_esc :
    nextIs (exec (.tmrTick 2#2) { driven Config.ex1 0#16 0#16 with tmr := ⟨0#16, 0#16, 39999#16⟩ }) fun t =>
      t.tmr.esccnt == 0#16 && t.pinlog == [.esc true] := by decide
/-- M8. -/
theorem test_motSetbl : nextIs (exec (.motSetbl .m0 0x9C#8) (driven Config.ex1 0x0064#16 0#16)) fun t =>
    t.mot0.power == 0x009C#16 := by decide
theorem test_motSetbh : nextIs (exec (.motSetbh .m0 0xFF#8) (driven Config.ex1 0x0064#16 0#16)) fun t =>
    t.mot0.power == 0xFF64#16 := by decide
/-- O2. -/
theorem test_oriUpdate :
    nextIs (exec (.oriUpdate 0x00#8 0x00#8 0x00#8 0x00#8 0x00#8 0xC0#8)
      { State.reset with ori := { Ori.reset with oriraw := .neg, oricnt := 48 } }) fun t =>
        t.ori.oricnt == 49 && t.ori.orifilt == .neg && t.ori.downness == -16 := by decide
/-- O1: truncation toward zero. -/
theorem test_oriUpdate_truncates :
    nextIs (exec (.oriUpdate 0x00#8 0x00#8 0x00#8 0x00#8 0x01#8 0xFC#8) State.reset) fun t =>
      t.ori.downness == 0 && t.ori.oriraw == .zero := by decide
theorem test_oriSign : nextIs (exec .oriSign (published 0#8 0#8 0#8 0#8 0#8 .neg)) fun t =>
    t.results == [.sign .neg] := by decide
/-- T1. -/
theorem test_schDtick :
    nextIs (exec .schDtick { driven Config.ex1 0#16 0#16 with tickn := 65535#16, tickm := 999#16 }) fun t =>
      t.tickn == 65535#16 && t.tickm == 1000#16 := by decide
theorem test_schTake : nextIs (exec (.schTake .n) { State.reset with tickn := 7#16, tickm := 9#16 }) fun t =>
    t.results == [.taken true] && t.tickn == 0#16 && t.tickm == 9#16 := by decide
theorem test_schTake_early : nextIs (exec (.schTake .m) { State.reset with tickn := 7#16, tickm := 999#16 }) fun t =>
    t.results == [.taken false] && t.tickm == 999#16 := by decide
theorem test_irqDisable : nextIs (exec (.irqDisable 4#3) (driven Config.ex1 0#16 0#16)) fun t =>
    !t.irq.enEsc && t.irq.enBrushed0 && t.irq.enDisplay := by decide
/-- T3: the held operations run in order. -/
theorem test_irqEnable :
    nextIs (exec (.irqEnable 2#3) { driven Config.ex1 0#16 0#16 with
      irq := { Irq.reset with pendBrushed0 := [.motOvf, .motOff .m0, .motOff .m1] } }) fun t =>
        t.pinlog == [.motor .m0 true true, .motor .m1 true true] && t.irq.pendBrushed0 == [] &&
          t.irq.enBrushed0 := by decide
/-- D4: the held tick runs with the levels of the latest word. -/
theorem test_irqEnable_sampler :
    nextIs (exec (.irqEnable 1#3) { State.reset with
      pd := { Decoder.reset with lines := 0b00001#5 }, irq := { Irq.reset with pendSampler := true } }) fun t =>
        t.pd.c0.num == 1#16 && t.pd.c1.num == 0#16 && t.pd.c4.den == 1#16 && !t.irq.pendSampler := by decide

/-! ### The step -/

/-- Word 0x3180 placed for the first step after reset is performed. -/
theorem test_step_first : nextIs (step (State.reset.withFetchWord 16 0x3180)) fun t =>
    t.esc.escpower == 128#8 && t.spos == 2 := by decide

/-- A run of the host's machine, one step long. -/
theorem test_core_run : nextIs (Sys2Proof.core.run 1 (State.reset.withFetchWord 16 0x3201)) fun t =>
    t.esc.escshut := by decide

/-! ### Witnesses: for every statement with hypotheses, values that meet them all, clause by clause -/

/-- A script of one operation, given by its bytes. -/
def scripted (s : State) (bytes : List Byte) : State := { s with script := bytes }

theorem witness_DecodeEncodeRoundTrip :
    (Instr.busSend [0x00#8]).wellFormed Config.ex1 = true ∧
    (Instr.busSend (List.replicate 16 0xFF#8)).wellFormed Config.ex1 = true ∧
    (Instr.motSetb .m1 0x8000#16).wellFormed Config.ex1 = true ∧
    (Instr.irqEnable 5#3).wellFormed Config.ex1 = true := by decide

theorem witness_OperationLengthFromWord :
    decode (0x00#8 :: 0x03#8 :: []) = .instr .busRet 2 [] ∧
    decode (0x01#8 :: 0x01#8 :: [0x2A#8, 0x00#8]) = .instr (.busSend [0x2A#8]) 3 [0x00#8] ∧
    decode (0x00#8 :: 0x40#8 :: [1#8, 2#8, 3#8, 4#8, 5#8, 6#8]) =
      .instr (.oriUpdate 1#8 2#8 3#8 4#8 5#8 6#8) 8 [] := by decide

theorem witness_ReservedWordsRefused :
    (scripted idle [0x20#8, 0x20#8]).cfg.Valid ∧
    (scripted idle [0x20#8, 0x20#8]).script = 0x20#8 :: 0x20#8 :: [] ∧
    isReserved 0x20#8 0x20#8 = true ∧ isReserved 0x1F#8 0x20#8 = false := by decide

theorem witness_IllFormedOperationsRefused :
    Config.ex1.Valid ∧ exA.Valid ∧ exFixed.Valid ∧
    decode (scripted idle [0x00#8, 0x01#8]).script = .instr (.busSend []) 2 [] ∧
    decode (scripted idle [0x11#8, 0x02#8]).script = .instr (.busRecv 17#8) 2 [] ∧ 16 < (17#8).toNat ∧
    decode (scripted idle [0x05#8, 0x21#8]).script = .instr (.pdRead 5#3) 2 [] ∧ 4 < (5#3).toNat ∧
    decode (scripted idle [0x03#8, 0x39#8]).script = .instr (.tmrTick 3#2) 2 [] ∧
    decode (scripted idle [0x06#8, 0x52#8]).script = .instr (.irqEnable 6#3) 2 [] ∧ 5 < (6#3).toNat ∧
    (scripted idle [0x00#8, 0x34#8]).cfg.motVariant = .b ∧
    decode (scripted idle [0x00#8, 0x34#8]).script = .instr (.motOn .m0) 2 [] ∧
    (scripted (State.resetWith exA) [0x00#8, 0x36#8]).cfg.motVariant = .a ∧
    decode (scripted (State.resetWith exA) [0x00#8, 0x36#8]).script = .instr .motOvf 2 [] ∧
    (scripted (State.resetWith exFixed) [0x00#8, 0x22#8]).cfg.cmdSource = .fixedProfile ∧
    decode (scripted (State.resetWith exFixed) [0x00#8, 0x22#8]).script = .instr .pdReadshut 2 [] :=
  by and_intros <;> decide

theorem witness_StepRunsDecodedOperation :
    (scripted idle [0x00#8, 0x22#8, 0x00#8]).cfg.Valid ∧
    decode (scripted idle [0x00#8, 0x22#8, 0x00#8]).script = .instr .pdReadshut 2 [0x00#8] ∧
    Instr.pdReadshut.wellFormed (scripted idle [0x00#8, 0x22#8, 0x00#8]).cfg = true ∧
    State.reset.cfg.Valid ∧ State.reset.script = [] := by decide

/-- The constraints of R9 as `Obligations.BrokenConfigurationRefused` writes them. -/
def r9 (c : Config) : Bool :=
  decide ((1 ≤ c.motMargin ∧ c.motMargin ≤ 127) ∧ c.escCntMin < c.escCntMax ∧
    (c.escWMin < c.escWMax ∧ c.escWMax < c.escFrame) ∧ (1 ≤ c.pdWinShort ∧ 1 ≤ c.pdWinLong) ∧
    1 ≤ c.oriDotDiv ∧ 1 ≤ c.oriTimeout ∧ c.devAddr.toNat < 128)

theorem witness_BrokenConfigurationRefused :
    r9 { Config.ex1 with motMargin := 0 } = false ∧ r9 { Config.ex1 with motMargin := 128 } = false ∧
    r9 { Config.ex1 with escCntMin := 40 } = false ∧ r9 { Config.ex1 with escWMin := 4000 } = false ∧
    r9 { Config.ex1 with escFrame := 4000 } = false ∧ r9 { Config.ex1 with pdWinShort := 0 } = false ∧
    r9 { Config.ex1 with pdWinLong := 0 } = false ∧ r9 { Config.ex1 with oriDotDiv := 0 } = false ∧
    r9 { Config.ex1 with oriTimeout := 0 } = false ∧ r9 { Config.ex1 with motMargin := 127 } = true := by decide

theorem witness_ResetMeetsInvariants : Config.ex1.Valid ∧ exA.Valid := by decide

theorem witness_StepKeepsBusInvariant :
    BusInv (scripted sendMore [0x28#8, 0x10#8]) ∧ ∃ t, step (scripted sendMore [0x28#8, 0x10#8]) = .next t :=
  ⟨by refine ⟨?_, ?_, ?_, ?_, ?_, ?_, ?_, ?_, ?_, ?_, ?_⟩ <;> decide, _, rfl⟩

theorem witness_StepKeepsEngineInvariant :
    BusInv (scripted sendEntered [0x08#8, 0x10#8]) ∧ PendInv (scripted sendEntered [0x08#8, 0x10#8]) ∧
    EngInv (scripted sendEntered [0x08#8, 0x10#8]) ∧ ∃ t, step (scripted sendEntered [0x08#8, 0x10#8]) = .next t :=
  ⟨by refine ⟨?_, ?_, ?_, ?_, ?_, ?_, ?_, ?_, ?_, ?_, ?_⟩ <;> decide, by decide,
    (engInv_of_none rfl).mpr ⟨rfl, fun _ => rfl⟩, _, rfl⟩

theorem witness_StepKeepsReadableBytes :
    BusInv (scripted recvTwoLeft [0x50#8, 0x10#8, 0x22#8]) ∧ BufInv (scripted recvTwoLeft [0x50#8, 0x10#8, 0x22#8]) ∧
    ∃ t, step (scripted recvTwoLeft [0x50#8, 0x10#8, 0x22#8]) = .next t :=
  ⟨by refine ⟨?_, ?_, ?_, ?_, ?_, ?_, ?_, ?_, ?_, ?_, ?_⟩ <;> decide, by decide, _, rfl⟩

theorem witness_StepKeepsBufferCanonical :
    MemInv (scripted recvTwoLeft [0x50#8, 0x10#8, 0x22#8]) ∧
    ∃ t, step (scripted recvTwoLeft [0x50#8, 0x10#8, 0x22#8]) = .next t :=
  ⟨by decide, _, rfl⟩

theorem witness_StepKeepsAccumulators :
    DecoderInv (scripted (sampling 63#16) [0x1F#8, 0x20#8]) ∧
    ∃ t, step (scripted (sampling 63#16) [0x1F#8, 0x20#8]) = .next t :=
  ⟨by decide, _, rfl⟩

/-- A filter one update away from a change of its sign. -/
def tilting : State := { State.reset with ori := { Ori.reset with oriraw := .neg, oricnt := 48 } }

theorem witness_StepKeepsOrientationInvariant :
    OriInv (scripted tilting [0x00#8, 0x40#8, 0#8, 0#8, 0#8, 0#8, 0#8, 0xC0#8]) ∧
    ∃ t, step (scripted tilting [0x00#8, 0x40#8, 0#8, 0#8, 0#8, 0#8, 0#8, 0xC0#8]) = .next t :=
  ⟨by decide, _, rfl⟩

/-- Variant B with the shared counter at its last count. -/
def wrapping : State := { driven Config.ex1 100#16 0#16 with tmr := ⟨255#16, 0#16, 39999#16⟩ }

theorem witness_StepKeepsTimerRanges :
    TimerInv (scripted wrapping [0x00#8, 0x39#8]) ∧ ∃ t, step (scripted wrapping [0x00#8, 0x39#8]) = .next t :=
  ⟨And.intro (And.intro (by decide) (And.intro (by decide) (by decide))) (by decide), _, rfl⟩

/-- Variant B with source 2 disabled and its three operations held. -/
def holding : State :=
  { driven Config.ex1 0#16 0#16 with
    irq := { Irq.reset with pendBrushed0 := [.motOvf, .motOff .m0, .motOff .m1] } }

theorem witness_StepKeepsPendingForm :
    BusInv (scripted holding [0x02#8, 0x52#8]) ∧ PendInv (scripted holding [0x02#8, 0x52#8]) ∧
    ∃ t, step (scripted holding [0x02#8, 0x52#8]) = .next t :=
  ⟨by refine ⟨?_, ?_, ?_, ?_, ?_, ?_, ?_, ?_, ?_, ?_, ?_⟩ <;> decide, by decide, _, rfl⟩

theorem witness_LinkTransitions : BusInv sendLast ∧ ∃ t, exec .evTxdAck sendLast = .next t :=
  ⟨by refine ⟨?_, ?_, ?_, ?_, ?_, ?_, ?_, ?_, ?_, ?_, ?_⟩ <;> decide, _, rfl⟩

theorem witness_BlockedHostOnlyReturns :
    ((stopped .inSend .acked).blocked ≠ .none ∧ isHostOp .busRet = true ∧
      ∃ t, exec .busRet (stopped .inSend .acked) = .next t) ∧
    ∃ t, exec (.busSend [0x2A#8]) idle = .next t ∧ t.blocked ≠ idle.blocked :=
  ⟨⟨by decide, by decide, _, rfl⟩, _, rfl, by decide⟩

theorem witness_OtherFamiliesLeaveBusDriver :
    (isBusOp (.motSete 5#8) = false ∧ Instr.motSete 5#8 ≠ .irqEnable 0#3 ∧ ∃ t, exec (.motSete 5#8) idle = .next t) ∧
    (isBusOp (.irqEnable 2#3) = false ∧ Instr.irqEnable 2#3 ≠ .irqEnable 0#3 ∧
      ∃ t, exec (.irqEnable 2#3) holding = .next t) :=
  ⟨⟨by decide, by decide, _, rfl⟩, by decide, by decide, _, rfl⟩

theorem witness_PinsOnlyDrivenByHandlers :
    mayDrivePins (.motSetb .m0 5#16) = false ∧ ∃ t, exec (.motSetb .m0 5#16) idle = .next t :=
  ⟨by decide, _, rfl⟩

theorem witness_OneWriterPerFieldGroup :
    (∃ t, exec (.motSetb .m0 5#16) idle = .next t ∧ (t.motor .m0).power ≠ (idle.motor .m0).power) ∧
    (∃ t, exec .evTxdAck sendLast = .next t ∧ t.bus.busy = false ∧ sendLast.bus.busy = true ∧
      t.bus.link ≠ sendLast.bus.link ∧ t.bus.outcome ≠ sendLast.bus.outcome) ∧
    (∃ t, exec (.evRxdAck 0x22#8) recvTwoLeft = .next t ∧ t.bus.ackarm ≠ recvTwoLeft.bus.ackarm ∧
      t.bus.buf ≠ recvTwoLeft.bus.buf) ∧
    (∃ t, exec (.busRecv 16#8) idle = .next t ∧ t.bus.dir ≠ idle.bus.dir) ∧
    (∃ t, exec (.irqDisable 0#3) idle = .next t ∧ t.irq.en .bus ≠ idle.irq.en .bus) :=
  ⟨⟨_, rfl, by decide⟩, ⟨_, rfl, by decide, by decide, by decide, by decide⟩, ⟨_, rfl, by decide, by decide⟩,
    ⟨_, rfl, by decide⟩, _, rfl, by decide⟩

theorem witness_DisplayTickCommutes :
    isHostOp .motOvf = false ∧ Instr.motOvf ≠ .schDtick ∧ ∃ t, exec .motOvf (driven Config.ex1 4#16 3#16) = .next t :=
  ⟨by decide, by decide, _, rfl⟩

theorem witness_WaitingBusHasAStep :
    BusInv recvLast ∧ EngInv recvLast ∧ BufInv recvLast ∧ PendInv recvLast ∧ recvLast.bus.busy = true ∧
    recvLast.irq.enBus = true :=
  ⟨by refine ⟨?_, ?_, ?_, ?_, ?_, ?_, ?_, ?_, ?_, ?_, ?_⟩ <;> decide,
    (engInv_of_none rfl).mpr ⟨rfl, rfl, rfl⟩, by decide, by decide, by decide, by decide⟩

theorem witness_HungHostStaysHung :
    Hung (masked sendEntered) ∧ ∃ t, exec .evStart (masked sendEntered) = .next t :=
  ⟨by decide, _, rfl⟩

/-- 1 000 000 Hz is the fastest clock and 30 360 Hz the slowest (B1). -/
theorem witness_BusInitLoadsDivisor :
    (16 = idle.cfg.cpuHz / (1000000#32).toNat ∧ 0 = (16 - 16) / 2 ∧ idle.blocked = .none ∧ idle.bus.busy = false ∧
      (1000000#32).toNat ≠ 0 ∧ 16 ≤ 16 ∧ 0 ≤ 255) ∧
    (527 = idle.cfg.cpuHz / (30360#32).toNat ∧ 255 = (527 - 16) / 2) ∧
    sendEntered.bus.busy = true ∧ (stopped .inSend .acked).blocked ≠ .none ∧
    (0#32).toNat = 0 ∧ idle.cfg.cpuHz / (1000001#32).toNat < 16 ∧
    255 < (idle.cfg.cpuHz / (30303#32).toNat - 16) / 2 := by decide

theorem witness_BusSendEntry :
    idle.blocked = .none ∧ idle.bus.busy = false ∧ idle.bus.link = .idle ∧ idle.bus.busdivSet = true ∧
    1 ≤ [0x2A#8].length ∧ (List.replicate 16 0x2A#8).length ≤ 16 := by decide

theorem witness_BusRecvEntry :
    idle.blocked = .none ∧ idle.bus.busy = false ∧ idle.bus.link = .idle ∧ idle.bus.busdivSet = true ∧
    1 ≤ (1#8).toNat ∧ (16#8).toNat ≤ 16 := by decide

theorem witness_CallPreconditions :
    (∃ p, Instr.busSend [] = .busSend p ∧ 0 = p.length) ∧ (∃ k, Instr.busRecv 17#8 = .busRecv k ∧ 17 = k.toNat) ∧
    (stopped .inSend .acked).blocked ≠ .none ∧ sendEntered.bus.busy = true ∧ stopping.bus.link ≠ .idle ∧
    State.reset.bus.busdivSet = false :=
  ⟨⟨[], rfl, rfl⟩, ⟨17#8, rfl, rfl⟩, by decide⟩

theorem witness_BusRetReturns :
    ((stopped .inSend .acked).blocked = .inSend ∧ (stopped .inSend .acked).bus.busy = false ∧
      (stopped .inSend .acked).bus.link = .idle ∧ (stopped .inSend .acked).bus.outcome = .acked) ∧
    (stopped .inSend .nackAbort).bus.outcome ≠ .acked ∧
    ((stopped .inRecv .acked).blocked = .inRecv ∧ (stopped .inRecv .acked).bus.outcome = .acked ∧
      [0xA7#8].length = (stopped .inRecv .acked).bus.len.toNat ∧ [0xA7#8].length ≤ 16 ∧
      ∀ (a : Nat) (h : a < [0xA7#8].length), (stopped .inRecv .acked).bus.buf.read? a = some [0xA7#8][a]) ∧
    (stopped .inRecv .nackAbort).bus.outcome ≠ .acked ∧
    (idle.blocked = .none ∧ sendEntered.bus.busy = true ∧ stopping.bus.link ≠ .idle) := by decide

theorem witness_StartHandsAddress :
    (0x3A#8 = BitVec.ofNat 8 (2 * sendEntered.cfg.devAddr.toNat + (if sendEntered.bus.dir = .receive then 1 else 0)) ∧
      sendEntered.bus.busy = true ∧ sendEntered.bus.link = .idle ∧ sendEntered.bus.outcome = .pending ∧
      sendEntered.eng.evt = none ∧ sendEntered.eng.req = .start ∧ sendEntered.irq.enBus = true ∧
      sendEntered.eng.owned = false) := by decide

theorem witness_AcknowledgedSendGoesOn :
    (sendAddressed.bus.busy = true ∧ sendAddressed.bus.dir = .send ∧ sendAddressed.eng.evt = none ∧
      sendAddressed.eng.req = .tx 0x3A#8 ∧ sendAddressed.irq.enBus = true ∧ sendAddressed.bus.curSet = true ∧
      sendAddressed.bus.link = .addressPhase ∧ sendAddressed.eng.phase = .afterStart ∧
      (0x3A#8).getLsbD 0 = false ∧ sendAddressed.bus.cur.toNat < sendAddressed.bus.len.toNat ∧
      sendAddressed.bus.cur.toNat < 16 ∧
      sendAddressed.bus.buf.read? sendAddressed.bus.cur.toNat = some 0x2A#8) ∧
    (sendLast.bus.busy = true ∧ sendLast.bus.dir = .send ∧ sendLast.eng.evt = none ∧
      sendLast.eng.req = .tx 0x2A#8 ∧ sendLast.irq.enBus = true ∧ sendLast.bus.curSet = true ∧
      sendLast.bus.link = .transmitPhase ∧ sendLast.eng.phase = .mt ∧
      sendLast.bus.len.toNat ≤ sendLast.bus.cur.toNat) := by decide

theorem witness_NotAcknowledgeAborts :
    (sendAddressed.bus.busy = true ∧ sendAddressed.eng.evt = none ∧ sendAddressed.eng.req = .tx 0x3A#8 ∧
      sendAddressed.irq.enBus = true ∧ sendAddressed.bus.dir = .send ∧ sendAddressed.bus.link = .addressPhase ∧
      sendAddressed.eng.phase = .afterStart ∧ (0x3A#8).getLsbD 0 = false) ∧
    (sendMore.bus.busy = true ∧ sendMore.eng.evt = none ∧ sendMore.eng.req = .tx 0x2A#8 ∧
      sendMore.irq.enBus = true ∧ sendMore.bus.dir = .send ∧ sendMore.bus.link = .transmitPhase ∧
      sendMore.eng.phase = .mt) ∧
    (recvOne.bus.busy = true ∧ recvOne.eng.evt = none ∧ recvOne.eng.req = .tx 0x3B#8 ∧
      recvOne.irq.enBus = true ∧ recvOne.bus.dir = .receive ∧ recvOne.bus.link = .addressPhase ∧
      recvOne.eng.phase = .afterStart ∧ (0x3B#8).getLsbD 0 = true) := by decide

theorem witness_AcknowledgedReadArms :
    (recvOne.bus.busy = true ∧ recvOne.bus.dir = .receive ∧ recvOne.bus.link = .addressPhase ∧
      recvOne.eng.evt = none ∧ recvOne.eng.req = .tx 0x3B#8 ∧ (0x3B#8).getLsbD 0 = true ∧
      recvOne.eng.phase = .afterStart ∧ recvOne.irq.enBus = true ∧ recvOne.bus.curSet = true ∧
      (recvOne.bus.len.toNat : Int) - recvOne.bus.cur.toNat = 1) ∧
    (recvThree.bus.link = .addressPhase ∧ (recvThree.bus.len.toNat : Int) - recvThree.bus.cur.toNat ≠ 1) := by
  decide

theorem witness_ReceivedByteStored :
    (recvMulti.bus.busy = true ∧ recvMulti.bus.dir = .receive ∧ recvMulti.bus.link = .receivePhaseMulti ∧
      recvMulti.eng.evt = none ∧ recvMulti.eng.req = .rx true ∧ recvMulti.eng.phase = .mr ∧
      recvMulti.irq.enBus = true ∧ recvMulti.bus.curSet = true ∧ recvMulti.bus.cur.toNat < 16 ∧
      recvMulti.bus.len.toNat ≠ recvMulti.bus.cur.toNat + 2) ∧
    (recvTwoLeft.bus.busy = true ∧ recvTwoLeft.bus.link = .receivePhaseMulti ∧ recvTwoLeft.eng.req = .rx true ∧
      recvTwoLeft.bus.len.toNat = recvTwoLeft.bus.cur.toNat + 2) := by decide

theorem witness_FinalByteCompletes :
    recvLast.bus.busy = true ∧ recvLast.bus.dir = .receive ∧ recvLast.bus.link = .receivePhaseLast ∧
    recvLast.eng.evt = none ∧ recvLast.eng.req = .rx false ∧ recvLast.eng.phase = .mr ∧
    recvLast.irq.enBus = true ∧ recvLast.bus.curSet = true ∧ recvLast.bus.cur.toNat < 16 := by decide

theorem witness_UnexpectedStatusRearms :
    (0x38#8 &&& 0xF8#8 ∉ listedStatus) ∧ (0xFF#8 &&& 0xF8#8 ∉ listedStatus) ∧ sendLast.irq.enBus = true ∧
    (masked sendLast).irq.enBus = false ∧ (masked sendLast).eng.evt = none := by decide

theorem witness_StopDoneIdles :
    (stopping.eng.req = .stop ∧ stopping.bus.link = .stopPending) ∧ idle.eng.req ≠ .stop ∧
    ({ stopping with bus := idle.bus } : State).bus.link ≠ .stopPending := by decide

theorem witness_DisabledBusHoldsEvent :
    (isListedEvent .evStart = true ∧ (masked sendEntered).irq.enBus = false ∧
      ∃ t, exec .evStart (masked sendEntered) = .next t) ∧ EventContext .evStart (masked sendEntered) ∧
    (isListedEvent (.evRxdNack 0xA7#8) = true ∧ (masked recvLast).irq.enBus = false ∧
      (∃ t, exec (.evRxdNack 0xA7#8) (masked recvLast) = .next t) ∧
      EventContext (.evRxdNack 0xA7#8) (masked recvLast)) :=
  ⟨⟨by decide, by decide, _, rfl⟩, ⟨rfl, rfl, rfl, rfl, rfl, rfl⟩, by decide, by decide, ⟨_, rfl⟩,
    rfl, rfl, rfl, rfl, rfl, rfl⟩

theorem witness_OutOfContractEventsRefused :
    isListedEvent (.evRxdNack 0x00#8) = true ∧ ¬ EventContext (.evRxdNack 0x00#8) recvMulti :=
  ⟨by decide, fun h => absurd h.2.2.2.1 (by decide)⟩

theorem witness_SamplerTickCounts :
    ((sampling 63#16).cfg.Valid ∧ (sampling 63#16).cfg.cmdSource = .pulseDecoded ∧ DecoderInv (sampling 63#16) ∧
      (sampling 63#16).irq.enSampler = true ∧ (idle.irq.enSampler = false ∧ DecoderInv idle)) ∧
    ((ChanId.c4, 4) ∈ [(ChanId.c0, 0), (.c1, 1), (.c2, 2), (.c3, 3), (.c4, 4)] ∧
      ((sampling 63#16).pd.chan .c4).den.toNat + 1 = (sampling 63#16).cfg.pdWinLong ∧
      ((sampling 63#16).pd.chan .c0).den.toNat + 1 = (sampling 63#16).cfg.pdWinShort ∧
      ((sampling 63#16).pd.chan .c1).den.toNat + 1 ≠ (sampling 63#16).cfg.pdWinShort) := by decide

theorem witness_HostReadsReturn :
    (idle.blocked = .none ∧ idle.cfg.cmdSource = .pulseDecoded ∧ (idle.pd.chan .c4).dutySet = false ∧
      idle.pd.shutcondSet = false) ∧
    ((published 1#8 2#8 3#8 4#8 5#8 .pos).blocked = .none ∧
      ((published 1#8 2#8 3#8 4#8 5#8 .pos).pd.chan .c4).dutySet = true ∧
      (published 1#8 2#8 3#8 4#8 5#8 .pos).pd.shutcondSet = true) := by decide

/-- Two samples in a window of two. -/
def shortWindow : State :=
  { idle with cfg := { Config.ex1 with pdWinShort := 2 }, irq := { idle.irq with enSampler := true } }

theorem witness_WindowPublishesCount :
    (ChanId.c3, 3) ∈ [(ChanId.c0, 0), (.c1, 1), (.c2, 2), (.c3, 3)] ∧ shortWindow.cfg.Valid ∧
    shortWindow.cfg.cmdSource = .pulseDecoded ∧ shortWindow.irq.enSampler = true ∧
    (shortWindow.pd.chan .c3).num = 0#16 ∧ (shortWindow.pd.chan .c3).den = 0#16 ∧
    [0b01000#5, 0b00000#5].length = shortWindow.cfg.pdWinShort ∧
    2 * ([0b01000#5, 0b00000#5].countP fun lv => lv.getLsbD 3) = shortWindow.cfg.pdWinShort := by decide

theorem witness_MotorCommandsStore : idle.blocked = .none := by decide

theorem witness_RecomputeThresholds :
    (driven exA 255#16 0xFF01#16).cfg.Valid ∧ (driven exA 255#16 0xFF01#16).blocked = .none ∧
    (driven exA 255#16 0xFF01#16).mot0.powerSet = true ∧ (driven exA 255#16 0xFF01#16).mot1.powerSet = true ∧
    (driven exA 255#16 0xFF01#16).esc.escpowerSet = true ∧ (driven exA 255#16 0xFF01#16).cfg.motVariant = .a ∧
    (driven Config.ex1 255#16 0#16).cfg.motVariant = .b ∧
    (State.reset.cfg.Valid ∧ State.reset.blocked = .none ∧ State.reset.mot0.powerSet = false) := by decide

/-- The `on` that the statement describes, for `driveMotor`. -/
def onPins (m : MotorId) (u : State) : State :=
  if min (u.motor m).power.toInt.natAbs 255 < u.cfg.motMargin then u
  else if 0 < (u.motor m).power.toInt then driveMotor m true false u else driveMotor m false true u

theorem witness_BrushedHandlersDrivePins :
    (driven exA 4#16 3#16).cfg.Valid ∧
    (∀ m a b u, driveMotor m a b u =
      { u.setMotor m { u.motor m with pinA := a, pinB := b, pinsSet := true } with
        pinlog := u.pinlog ++ [.motor m a b] }) ∧
    (∀ m u, onPins m u =
      if min (u.motor m).power.toInt.natAbs 255 < u.cfg.motMargin then u
      else if 0 < (u.motor m).power.toInt then driveMotor m true false u else driveMotor m false true u) ∧
    ((driven exA 4#16 3#16).cfg.motVariant = .a ∧
      (driven exA 4#16 3#16).irq.en ((TimerOp.motOn .m1).source .a) = true ∧
      ((driven exA 4#16 3#16).motor .m1).powerSet = true) ∧
    (driven exA 252#16 251#16).irq.en ((TimerOp.motOff .m1).source (driven exA 252#16 251#16).cfg.motVariant) = true ∧
    ((driven Config.ex1 4#16 3#16).cfg.motVariant = .b ∧ (driven Config.ex1 4#16 3#16).irq.enBrushed0 = true ∧
      (driven Config.ex1 4#16 3#16).mot0.powerSet = true ∧ (driven Config.ex1 4#16 3#16).mot1.powerSet = true) :=
  ⟨by decide, fun m _ _ _ => by cases m <;> rfl, fun _ _ => rfl, by decide, by decide, by decide⟩

theorem witness_EscHandlersDrivePin :
    ((driven exA 0#16 0#16).irq.enEsc = true ∧ (driven exA 0#16 0#16).esc.escshutSet = true ∧
      (driven exA 0#16 0#16).esc.escshut = false) ∧
    ({ driven exA 0#16 0#16 with esc := { Esc.reset with escshut := true, escshutSet := true } } : State).esc.escshut
      = true ∧
    ({ driven exA 0#16 0#16 with esc := Esc.reset } : State).esc.escshutSet = false := by decide

theorem witness_DisabledTimersHoldEvents :
    (holding.irq.en .brushed0 = false ∧ TimerOp.motOvf ∈ holding.irq.pend .brushed0 ∧
      TimerOp.escAssert ∉ holding.irq.pend .esc ∧ holding.irq.en .esc = false) ∧
    (State.resetWith exA).irq.en .brushed1 = false ∧ holding.irq.enDisplay = false := by decide

theorem witness_TimerTickMakesDue :
    (wrapping.cfg.Valid ∧ wrapping.esc.escshutSet = true ∧ wrapping.mot0.powerSet = true ∧
      wrapping.mot1.powerSet = true) ∧
    0 = (wrapping.tmr.esccnt.toNat + 1) % wrapping.cfg.escFrame ∧
    (wrapping.cfg.motVariant = .b ∧ 0 = (wrapping.tmr.tcnt0.toNat + 1) % 256) ∧
    ((driven exA 4#16 3#16).cfg.motVariant = .a ∧ (MotorId.m1, 1#2) ∈ [(MotorId.m0, 0#2), (.m1, 1#2)] ∧
      1 = (((driven exA 4#16 3#16).tmr.tcnt .m1).toNat + 1) % (driven exA 4#16 3#16).cfg.motTopA) := by decide

/-- Pins braked at power 0, driven at power 255. -/
def heldPins : State :=
  { driven Config.ex1 0#16 255#16 with
    mot0 := { (driven Config.ex1 0#16 255#16).mot0 with pinA := true, pinB := true, pinsSet := true }
    mot1 := { (driven Config.ex1 0#16 255#16).mot1 with pinA := true, pinB := false, pinsSet := true } }

theorem witness_ExtremePowersNeverToggle :
    heldPins.cfg.Valid ∧ (∃ t, exec .motOvf heldPins = .next t) ∧
    ((heldPins.motor .m0).power.toInt = 0 ∧ (heldPins.motor .m0).pinA = true ∧ (heldPins.motor .m0).pinB = true) ∧
    ((heldPins.motor .m1).power.toInt = 255 ∧ (heldPins.motor .m1).pinA = true ∧
      (heldPins.motor .m1).pinB = false) ∧
    ((driven Config.ex1 0xFF01#16 0#16).motor .m0).power.toInt = -255 :=
  ⟨by decide, ⟨_, rfl⟩, by decide, by decide, by decide⟩

theorem witness_OriUpdateFilters :
    tilting.cfg.Valid ∧ tilting.blocked = .none ∧
    (-2 : Int) = ((wordOf 0x00#8 0x00#8).toInt * tilting.cfg.oriRefX + (wordOf 0x00#8 0x00#8).toInt *
      tilting.cfg.oriRefY + (wordOf 0x00#8 0xF8#8).toInt * tilting.cfg.oriRefZ).tdiv (16 * tilting.cfg.oriDotDiv) ∧
    Sign.neg.val = (if (-2 : Int) ≤ -2 then -1 else if 2 ≤ (-2 : Int) then 1 else 0) ∧
    49 = (if Sign.neg = tilting.ori.oriraw then min (tilting.ori.oricnt + 1) (tilting.cfg.oriTimeout - 1) else 0) := by
  decide

/-- A filter with ORI_TIMEOUT 2. -/
def quick : State := { State.reset with cfg := { Config.ex1 with oriTimeout := 2 } }

/-- The sign of an update's sample in that configuration. -/
def quickSign (i : Instr) : Option Sign :=
  match i with
  | .oriUpdate xl xh yl yh zl zh =>
    some (rawSign (downnessOf quick.cfg (wordOf xl xh).toInt (wordOf yl yh).toInt (wordOf zl zh).toInt))
  | _ => none

theorem witness_SignHeldForTimeoutFlips :
    (∀ xl xh yl yh zl zh, quickSign (.oriUpdate xl xh yl yh zl zh) =
      some (rawSign (downnessOf quick.cfg (wordOf xl xh).toInt (wordOf yl yh).toInt (wordOf zl zh).toInt))) ∧
    quick.cfg.Valid ∧ quick.blocked = .none ∧ quick.ori.oriraw ≠ .pos ∧
    quickSign (.oriUpdate 0#8 0#8 0#8 0#8 0#8 0x40#8) = some .pos ∧
    quickSign (.oriUpdate 0#8 0#8 0#8 0#8 0#8 0xC0#8) ≠ some .pos ∧
    quick.cfg.oriTimeout ≤ (List.replicate 2 (Instr.oriUpdate 0#8 0#8 0#8 0#8 0#8 0x40#8)).length ∧
    (List.replicate 1 (Instr.oriUpdate 0#8 0#8 0#8 0#8 0#8 0x40#8)).length + 1 = quick.cfg.oriTimeout :=
  ⟨fun _ _ _ _ _ _ => rfl, by decide, by decide, by decide, by decide, by decide, by decide, by decide⟩

theorem witness_TickCountersCountAndYield :
    (driven exA 0#16 0#16).irq.enDisplay = true ∧ (driven exA 0#16 0#16).blocked = .none ∧
    (State.reset.blocked = .none ∧ State.reset.irq.enDisplay = false ∧
      State.reset.tickn.toNat < State.reset.cfg.schN ∧ State.reset.tickm.toNat < State.reset.cfg.schM) ∧
    ({ State.reset with tickn := 3#16, tickm := 1000#16 } : State).cfg.schN ≤ (3#16).toNat ∧
    ({ State.reset with tickn := 3#16, tickm := 1000#16 } : State).cfg.schM ≤ (1000#16).toNat := by decide

/-- An unexpected status code held by the disabled bus source. -/
def heldOther : State :=
  { State.reset with eng := { Engine.reset with evt := some ⟨0x38#8, none⟩ } }

/-- A transaction in flight with the host not blocked: no run reaches it, and the clause of the held listed event holds
there too. -/
def freed : State := { masked sendAddressed with blocked := .none }

/-- A sampler tick and a display tick held. -/
def heldTicks : State := { State.reset with irq := { Irq.reset with pendSampler := true, pendDisplay := true } }

theorem witness_InterruptControl :
    holding.blocked = .none ∧
    ((2#3, Source.brushed0) ∈
      [(0#3, Source.bus), (1#3, .sampler), (2#3, .brushed0), (4#3, .esc), (5#3, .display)]) ∧
    (State.resetWith exA).cfg.motVariant = .a ∧
    idle.eng.evt = none ∧ heldOther.eng.evt = some ⟨0x38#8, none⟩ ∧ (0x38#8 &&& 0xF8#8 ∉ listedStatus) ∧
    idle.irq.pendSampler = false ∧ (heldTicks.irq.pendSampler = true ∧ heldTicks.cfg.cmdSource = .pulseDecoded) ∧
    idle.irq.pendDisplay = false ∧ heldTicks.irq.pendDisplay = true ∧ idle.irq.pend .esc = [] ∧
    (isListedEvent .evSlawAck = true ∧ freed.irq.enBus = false ∧
      nextIs (exec .evSlawAck freed) fun t => t.blocked == .none && t.eng.evt == some ⟨0x18#8, none⟩) ∧
    (PendInv holding ∧ holding.mot0.powerSet = true ∧ holding.mot1.powerSet = true ∧
      holding.esc.escshutSet = true) := by decide

theorem witness_SendTransactions :
    1 ≤ [0x2A#8].length ∧ (List.replicate 16 0x2A#8).length ≤ 16 ∧
    0x3A#8 = BitVec.ofNat 8 (2 * idle.cfg.devAddr.toNat) ∧ idle.blocked = .none ∧ idle.bus.busy = false ∧
    idle.bus.link = .idle ∧ idle.bus.busdivSet = true ∧ idle.eng.owned = false ∧ idle.irq.enBus = true := by decide

theorem witness_ReceiveReturnsBytes :
    ([] : List Byte).length ≤ 15 ∧ (List.replicate 15 0x2A#8).length ≤ 15 ∧
    0x3B#8 = BitVec.ofNat 8 (2 * idle.cfg.devAddr.toNat + 1) ∧ idle.blocked = .none ∧ idle.bus.busy = false ∧
    idle.bus.link = .idle ∧ idle.bus.busdivSet = true ∧ idle.eng.owned = false ∧ idle.irq.enBus = true := by decide

/-- T2, first row. -/
theorem witness_CommandsFollowDutyAndSign :
    (published 200#8 0#8 0#8 255#8 85#8 .neg).cfg.Valid ∧
    (published 200#8 0#8 0#8 255#8 85#8 .neg).cfg.cmdSource = .pulseDecoded ∧
    (published 200#8 0#8 0#8 255#8 85#8 .neg).blocked = .none ∧ PendInv (published 200#8 0#8 0#8 255#8 85#8 .neg) ∧
    (published 200#8 0#8 0#8 255#8 85#8 .neg).irq.pendBrushed0 = [] ∧
    (published 200#8 0#8 0#8 255#8 85#8 .neg).irq.pendBrushed1 = [] ∧
    (∀ id, ((published 200#8 0#8 0#8 255#8 85#8 .neg).pd.chan id).dutySet = true) ∧
    (published 200#8 0#8 0#8 255#8 85#8 .neg).pd.shutcondSet = true ∧
    (published 200#8 0#8 0#8 255#8 85#8 .neg).ori.orifilt.val = -1 ∧
    (published 200#8 0#8 0#8 255#8 85#8 .zero).ori.orifilt.val ≠ -1 :=
  ⟨by decide, by decide, by decide, by decide, by decide, by decide, fun id => by cases id <;> rfl, by decide,
    by decide, by decide⟩

theorem witness_RegisterReads :
    idle.eng.evt = none ∧ heldOther.eng.evt = some ⟨0x38#8, none⟩ ∧
    ({ State.reset with eng := { Engine.reset with evt := some ⟨0x50#8, some 0x7F#8⟩ } } : State).eng.evt =
      some ⟨0x50#8, some 0x7F#8⟩ := by decide

/-- `95_test_vectors.md` B2, register level: what each `BUSCTL` write asks of the engine, the byte handed over before it
where there is one. -/
theorem test_busctl_writes :
    (BusCtl.ofByte 0xA5#8).request none idle.eng = .start ∧
    (BusCtl.ofByte 0x85#8).request (some 0x3A#8) idle.eng = .tx 0x3A#8 ∧
    (BusCtl.ofByte 0x95#8).request none idle.eng = .stop ∧
    (idle.writeBusCtl 0xC5#8 none).bus.ackarm = true ∧ (idle.writeBusCtl 0x84#8 none).irq.enBus = false ∧
    (idle.writeBusCtl 0xFF#8 none).readBusCtl = 0x75#8 := by decide

theorem witness_InterruptControlCompletes :
    holding.blocked = .none ∧ PendInv holding ∧ holding.eng.evt = none ∧ holding.irq.pendSampler = false ∧
    holding.mot0.powerSet = true ∧ holding.mot1.powerSet = true ∧ holding.esc.escshutSet = true ∧
    ((2#3, Source.brushed0) ∈
      [(0#3, Source.bus), (1#3, .sampler), (2#3, .brushed0), (4#3, .esc), (5#3, .display)]) ∧
    ((3#3, Source.brushed1) = (3#3, .brushed1) ∧ (driven exA 0#16 0#16).cfg.motVariant = .a) := by decide

end Sys2Proof.Tests
end

