-- ==== Sys2Proof/Proofs/Scope.lean ====
section
/-!
What a step does in each of its cases (`00_scope.md` R4 and R9, `70_reset_and_hazards.md` R335), and the two statements
about the scope.
-/

namespace Sys2Proof.Machine

variable {s : State}

/-! The cases of a step. -/

/-- F1: nothing of the script is looked at before the configuration is checked. -/
theorem step_of_not_valid (hv : ¬ s.cfg.Valid) : step s = .refused .badConfig := by
  simp [step, configOk, hv]

theorem step_of_decode_wellFormed {i : Instr} {len : Nat} {rest : List Byte} (hv : s.cfg.Valid)
    (hd : decode s.script = .instr i len rest) (hw : i.wellFormed s.cfg = true) :
    step s = exec i (s.advance len rest) := by
  simp [step, configOk, fetch, operandsOk, hv, hd, hw]

theorem step_of_decode_ended (hv : s.cfg.Valid) (hd : decode s.script = .ended) :
    step s = .fault (.scriptEnded s.runComplete) := by
  simp [step, configOk, fetch, hv, hd]

/-- R335: a run is complete when the host is free, the controller idle, and no bus event waits for its handler. -/
theorem runComplete_eq_decide :
    s.runComplete =
      decide (s.blocked = .none ∧ s.bus.busy = false ∧ s.bus.link = .idle ∧ s.eng.evt = none) := by
  rw [Bool.eq_iff_iff]
  simp [State.runComplete, State.busPending, and_assoc]

/-- The validity check implies every constraint of R9; it has the ranges of R8 besides, and a device address of
seven bits is below 128 by its type. -/
theorem r9_of_valid {c : Config} (hv : c.Valid) :
    (1 ≤ c.motMargin ∧ c.motMargin ≤ 127) ∧ c.escCntMin < c.escCntMax ∧
      (c.escWMin < c.escWMax ∧ c.escWMax < c.escFrame) ∧ (1 ≤ c.pdWinShort ∧ 1 ≤ c.pdWinLong) ∧
      1 ≤ c.oriDotDiv ∧ 1 ≤ c.oriTimeout ∧ c.devAddr.toNat < 128 := by
  obtain ⟨-, ⟨hshort, -⟩, ⟨hlong, -⟩, hcnt, -, -, hmargin, ⟨-, hwidth, hframe, -⟩, hdiv, htimeout, -, -⟩ := hv
  exact ⟨hmargin, hcnt, ⟨hwidth, hframe⟩, ⟨hshort, hlong⟩, hdiv, htimeout, c.devAddr.isLt⟩

/-! The statements. -/

/-- Settles O6, from the two cases of a step the statement speaks of. -/
theorem stepRunsDecodedOperation : Obligations.StepRunsDecodedOperation := by
  refine ⟨fun s i len rest hv hd hw => ?_, fun s hv hs => ?_⟩
  · exact step_of_decode_wellFormed hv hd hw
  · have hd : decode s.script = .ended := by rw [hs]; rfl
    rw [step_of_decode_ended hv hd, runComplete_eq_decide]

/-- Settles O7: a valid configuration meets R9, so one that breaks R9 is not valid. -/
theorem brokenConfigurationRefused : Obligations.BrokenConfigurationRefused :=
  fun _ hbroken => step_of_not_valid fun hv => hbroken (r9_of_valid hv)

end Sys2Proof.Machine
end

/-!
The state (`10_state.md`): the ranges of the timers' counters and latched thresholds (R42 to R44), the form of the
pending lists (R52), the host's block (R33), and who drives the output pins (R45). First what each family of operations
leaves as it was, then what falls due of the timers, then the statements.
-/

namespace Sys2Proof.Machine

variable {s t : State}

/-! What the operations leave as it was. -/

/-- The handler of a listed event writes BusDriver and the engine only, and it consumes the event. -/
theorem handleCode_frame {c : BusCode} {d : Option Byte} (h : handleCode c d s = .next t) :
    t = { s with bus := t.bus, eng := t.eng } ∧ t.eng.evt = none := by
  cases c with
  | start | rstart | slawNack | txdNack | slarNack => obtain rfl := Host.Outcome.next.inj h; exact ⟨rfl, rfl⟩
  | slawAck | txdAck =>
    obtain ⟨-, ⟨-, -, _, _, -, rfl, rfl⟩ | ⟨-, rfl⟩⟩ := handleSendAck_next h <;> exact ⟨rfl, rfl⟩
  | slarAck => obtain ⟨-, ⟨-, rfl⟩ | ⟨-, _, rfl, rfl⟩⟩ := handleSlarAck_next h <;> exact ⟨rfl, rfl⟩
  | rxdAck =>
    obtain ⟨_, _, -, -, -, rfl, ⟨-, rfl⟩ | ⟨-, rfl⟩⟩ := handleRxdAck_next h <;> exact ⟨rfl, rfl⟩
  | rxdNack => obtain ⟨_, -, -, -, rfl⟩ := handleRxdNack_next h; exact ⟨rfl, rfl⟩

/-- A listed event writes BusDriver, the engine and the wire log only; its handler consumes it on the enabled source. -/
theorem busEvent_frame {c : BusCode} {d : Option Byte} (h : busEvent c d s = .next t) :
    t = { s with bus := t.bus, eng := t.eng, buslog := t.buslog } ∧ (s.irq.enBus = true → t.eng.evt = none) := by
  obtain ⟨-, -, _, _, _, -, u, rfl, ⟨-, h⟩ | ⟨hen, rfl⟩⟩ := busEvent_next h
  · obtain ⟨hf, he⟩ := handleCode_frame h
    exact ⟨by rw [hf], fun _ => he⟩
  · exact ⟨rfl, fun hen' => absurd hen' (by simp [hen])⟩

/-- An unexpected status code writes the engine only; its handler consumes it on the enabled source. -/
theorem execEvOther_frame {st : Byte} (h : execEvOther st s = .next t) :
    t = { s with eng := t.eng } ∧ (s.irq.enBus = true → t.eng.evt = none) := by
  obtain ⟨-, u, rfl, ⟨-, rfl⟩ | ⟨hen, -, rfl⟩⟩ := execEvOther_next h
  · exact ⟨rfl, fun _ => rfl⟩
  · exact ⟨rfl, fun hen' => absurd hen' (by simp [hen])⟩

/-- The stop condition is carried out for a pending stop only. -/
theorem execEvStopdone_next (h : execEvStopdone s = .next t) :
    (s.eng.req = .stop ∧ s.bus.link = .stopPending) ∧ t = { s with
      buslog := s.buslog ++ [.p]
      eng := { s.eng with owned := false, phase := .afterStart, req := .none }
      bus := { s.bus with link := .idle } } := by
  unfold execEvStopdone at h
  split at h
  · next hc => exact ⟨hc, (Host.Outcome.next.inj h).symm⟩
  · cases h

/-- What is served at IRQ.ENABLE of source 0 writes BusDriver and the engine only, and leaves no event pending. -/
theorem servePending_frame (h : servePending s = .next t) :
    t = { s with bus := t.bus, eng := t.eng } ∧ t.eng.evt = none := by
  obtain ⟨he, rfl⟩ | ⟨_, -, ⟨-, rfl⟩ | ⟨_, -, -, h⟩⟩ := servePending_next h
  · exact ⟨rfl, he⟩
  · exact ⟨rfl, rfl⟩
  · exact handleCode_frame h

/-! The decoder's, the filter's, the scheduler's operations, and IRQ.DISABLE. -/

/-- The sampler handler writes the decoder only. -/
theorem samplerTick_next (h : samplerTick s = .next t) : t = { s with pd := s.pd.tick s.cfg } :=
  (Host.Outcome.next.inj (withDecoder_eq_next.mp h).2).symm

/-- PD.TICK sets the line levels; then the sampler handler runs or is held. -/
theorem execPdTick_next {levels : BitVec 5} (h : execPdTick levels s = .next t) :
    ∃ u, u = { s with pd := { s.pd with lines := levels } } ∧
      ((s.irq.enSampler = true ∧ t = { u with pd := u.pd.tick u.cfg }) ∨
        (s.irq.enSampler = false ∧ t = { u with irq := { u.irq with pendSampler := true } })) := by
  obtain ⟨-, h⟩ := withDecoder_eq_next.mp h
  refine ⟨_, rfl, ?_⟩
  rcases deliver_eq_next.mp h with ⟨hen, h⟩ | ⟨hen, h⟩
  · exact .inl ⟨hen, samplerTick_next h⟩
  · exact .inr ⟨hen, (Host.Outcome.next.inj h).symm⟩

/-- PD.READ returns a value to the host and does nothing else. -/
theorem execPdRead_next {channel : BitVec 3} (h : execPdRead channel s = .next t) : ∃ r, t = s.giveResult r := by
  obtain ⟨-, h⟩ := hostOp_eq_next.mp h
  obtain ⟨-, h⟩ := withDecoder_eq_next.mp h
  split at h
  · cases h
  · split at h
    · exact ⟨_, (Host.Outcome.next.inj h).symm⟩
    · cases h

/-- SCH.DTICK: the display-tick handler runs or is held. -/
theorem execSchDtick_next (h : execSchDtick s = .next t) :
    (s.irq.enDisplay = true ∧ t = { s with tickn := satInc s.tickn, tickm := satInc s.tickm }) ∨
      (s.irq.enDisplay = false ∧ t = { s with irq := { s.irq with pendDisplay := true } }) := by
  rcases deliver_eq_next.mp h with ⟨hen, h⟩ | ⟨hen, h⟩
  · exact .inl ⟨hen, (Host.Outcome.next.inj h).symm⟩
  · exact .inr ⟨hen, (Host.Outcome.next.inj h).symm⟩

/-- SCH.TAKE returns a flag to the host, with the counter zeroed where it is taken. -/
theorem execSchTake_next {k : TickCtr} (h : execSchTake k s = .next t) :
    t = (s.zeroTick k).giveResult (.taken true) ∨ t = s.giveResult (.taken false) := by
  obtain ⟨-, h⟩ := hostOp_eq_next.mp h
  split at h
  · cases h
  · split at h
    · exact .inl (Host.Outcome.next.inj h).symm
    · exact .inr (Host.Outcome.next.inj h).symm

/-- IRQ.DISABLE clears the enable bit of its source. -/
theorem execIrqDisable_next {k : BitVec 3} (h : execIrqDisable k s = .next t) :
    ∃ src, sourceOf s.cfg.motVariant k = some src ∧ t = { s with irq := s.irq.setEn src false } := by
  obtain ⟨-, h⟩ := hostOp_eq_next.mp h
  split at h
  · cases h
  · next src hsrc => exact ⟨src, hsrc, (Host.Outcome.next.inj h).symm⟩

/-- The host's MOT operations (`42_motor_driver.md` R191 to R193, R196 to R198). -/
def isMotorCommand (i : Instr) : Bool :=
  match i with
  | .motSetb _ _ | .motSete _ | .motShut _ | .motRecomp | .motSetbl _ _ | .motSetbh _ _ => true
  | _ => false

/-- An operation is BusDriver's, a MOT operation of the host, IRQ.ENABLE, an event of a timer, or none of these. -/
theorem instr_families (i : Instr) :
    isBusOp i = true ∨ isMotorCommand i = true ∨ (∃ k, i = .irqEnable k) ∨
      (mayDrivePins i = true ∧ isHostOp i = false) ∨
      (isBusOp i = false ∧ isMotorCommand i = false ∧ mayDrivePins i = false) := by
  cases i <;> simp [isBusOp, isMotorCommand, mayDrivePins, isHostOp]

/-- Besides BusDriver, the motors and IRQ.ENABLE, an operation writes the decoder, the filter, the tick counters, the
interrupt state and the results only. -/
theorem exec_sensing_frame {i : Instr} (hb : isBusOp i = false) (hm : isMotorCommand i = false)
    (hp : mayDrivePins i = false) (h : exec i s = .next t) :
    t = { s with
      pd := t.pd, ori := t.ori, irq := t.irq, tickn := t.tickn, tickm := t.tickm, results := t.results } := by
  cases i with
  | pdTick => obtain ⟨_, rfl, ⟨-, rfl⟩ | ⟨-, rfl⟩⟩ := execPdTick_next h <;> rfl
  | pdRead => obtain ⟨_, rfl⟩ := execPdRead_next h; rfl
  | pdReadshut => obtain rfl := pdReadshut_gives rfl h; rfl
  | oriUpdate => obtain rfl := Host.Outcome.next.inj (hostOp_eq_next.mp h).2; rfl
  | oriSign => obtain rfl := oriSign_gives h; rfl
  | schDtick => obtain ⟨-, rfl⟩ | ⟨-, rfl⟩ := execSchDtick_next h <;> rfl
  | irqDisable => obtain ⟨_, -, rfl⟩ := execIrqDisable_next h; rfl
  | schTake k => obtain rfl | rfl := execSchTake_next h <;> cases k <;> rfl
  | busInit | busSend | busRecv | busRet => cases hb
  | evStart | evRstart | evSlawAck | evSlawNack | evTxdAck | evTxdNack | evSlarAck | evSlarNack => cases hb
  | evRxdAck | evRxdNack | evOther | evStopdone => cases hb
  | motSetb | motSete | motShut | motRecomp | motSetbl | motSetbh => cases hm
  | motOn | motOff | motOvf | escAssert | escDeassert | tmrTick | irqEnable => cases hp

/-- BusDriver's operations write its fields, the engine, the host's block, the wire log, the results and the enable
bits only. -/
theorem exec_bus_frame {i : Instr} (hi : isBusOp i = true) (h : exec i s = .next t) :
    t = { s with
      bus := t.bus, eng := t.eng, blocked := t.blocked, irq := t.irq, buslog := t.buslog, results := t.results } := by
  cases i with
  | busInit => obtain ⟨-, -, _, -, rfl⟩ := execBusInit_eq_next.mp h; rfl
  | busSend | busRecv =>
    obtain ⟨-, -, -, -, -, h⟩ := callEntry_eq_next.mp h
    obtain rfl := Host.Outcome.next.inj h
    rfl
  | busRet => obtain ⟨-, -, -, _, rfl⟩ := execBusRet_next h; rfl
  | evStart | evRstart | evSlawAck | evSlawNack | evTxdAck | evTxdNack | evSlarAck | evSlarNack | evRxdAck
  | evRxdNack => rw [(busEvent_frame h).1]
  | evOther => rw [(execEvOther_frame h).1]
  | evStopdone => obtain ⟨-, rfl⟩ := execEvStopdone_next h; rfl
  | pdTick | pdRead | pdReadshut | oriUpdate | oriSign | schDtick | irqDisable | irqEnable | schTake => cases hi
  | motSetb | motSete | motShut | motRecomp | motSetbl | motSetbh => cases hi
  | motOn | motOff | motOvf | escAssert | escDeassert | tmrTick => cases hi

/-! The host's MOT operations. -/

/-- What the host's setting operations can change: the commands and their flags. -/
def CommandsOnly (s t : State) : Prop :=
  t = { s with mot0 := t.mot0, mot1 := t.mot1, esc := t.esc } ∧
  (∀ m, t.motor m = { s.motor m with
    power := (t.motor m).power, powerLoSet := (t.motor m).powerLoSet, powerHiSet := (t.motor m).powerHiSet }) ∧
  t.esc = { s.esc with
    escpower := t.esc.escpower, escpowerSet := t.esc.escpowerSet
    escshut := t.esc.escshut, escshutSet := t.esc.escshutSet }

theorem CommandsOnly.setPower (s : State) (m : MotorId) (p : Word16) (lo hi : Bool) :
    CommandsOnly s (s.setMotor m { s.motor m with power := p, powerLoSet := lo, powerHiSet := hi }) := by
  refine ⟨by cases m <;> rfl, fun k => ?_, by cases m <;> rfl⟩
  cases m <;> cases k <;> rfl

/-- MOT.RECOMP recomputes both thresholds and the pulse width. -/
theorem execMotRecomp_next (h : execMotRecomp s = .next t) :
    t = { s with
      mot0 := s.mot0.recomp s.cfg
      mot1 := s.mot1.recomp s.cfg
      esc := { s.esc with escwidth := escWidth s.cfg s.esc.escpower, escwidthSet := true } } := by
  obtain ⟨-, h⟩ := hostOp_eq_next.mp h
  split at h
  · cases h
  · split at h
    · cases h
    · split at h
      · cases h
      · exact (Host.Outcome.next.inj h).symm

/-- A MOT operation of the host sets commands, or it is MOT.RECOMP. -/
theorem exec_motorCommand_next {i : Instr} (hi : isMotorCommand i = true) (h : exec i s = .next t) :
    CommandsOnly s t ∨ (i = .motRecomp ∧ execMotRecomp s = .next t) := by
  cases i with
  | motRecomp => exact .inr ⟨rfl, h⟩
  | motSetb | motSetbl | motSetbh =>
    obtain rfl := Host.Outcome.next.inj (hostOp_eq_next.mp h).2
    exact .inl (.setPower _ _ _ _ _)
  | motSete | motShut =>
    obtain rfl := Host.Outcome.next.inj (hostOp_eq_next.mp h).2
    exact .inl ⟨rfl, fun m => by cases m <;> rfl, rfl⟩
  | _ => cases hi

/-- The MOT operations of the host write the motors and the ESC channel only. -/
theorem exec_motorCommand_frame {i : Instr} (hi : isMotorCommand i = true) (h : exec i s = .next t) :
    t = { s with mot0 := t.mot0, mot1 := t.mot1, esc := t.esc } := by
  obtain ⟨hstate, -, -⟩ | ⟨-, hrecomp⟩ := exec_motorCommand_next hi h
  · exact hstate
  · rw [execMotRecomp_next hrecomp]

/-! What falls due of the timers. -/

/-- Handler operations that the variant has fall due, one after another. -/
inductive DueRun : State → State → Prop
  | nil (s : State) : DueRun s s
  | cons {s u t : State} (op : TimerOp) (hop : op ∈ heldOps s.cfg.motVariant (op.source s.cfg.motVariant))
      (h : due op s = .next u) (hrest : DueRun u t) : DueRun s t

/-- What every due operation keeps, every run of them keeps. -/
theorem DueRun.keeps {P : State → Prop}
    (hdue : ∀ (op : TimerOp) (s t : State), op ∈ heldOps s.cfg.motVariant (op.source s.cfg.motVariant) →
      due op s = .next t → P s → P t)
    (h : DueRun s t) (hs : P s) : P t := by
  induction h with
  | nil => exact hs
  | cons op hop h _ ih => exact ih (hdue op _ _ hop h hs)

/-- A due operation changes pins only, or is appended to its source's pending list. -/
theorem due_pins_or_hold {op : TimerOp} (h : due op s = .next t) :
    PinsOnly s t ∨
      (s.irq.en (op.source s.cfg.motVariant) = false ∧
        t = { s with irq := s.irq.hold (op.source s.cfg.motVariant) op }) :=
  (due_next h).imp_left fun ⟨_, h⟩ => runTimerOp_pins h

/-- A conditional due operation, and the run that follows it. -/
theorem DueRun.dueIf {b : Bool} {op : TimerOp} {u : State}
    (hop : op ∈ heldOps s.cfg.motVariant (op.source s.cfg.motVariant)) (h : dueIf b op s = .next u)
    (hrest : DueRun u t) : DueRun s t := by
  obtain ⟨-, rfl⟩ | ⟨-, h⟩ := dueIf_next h
  · exact hrest
  · exact .cons op hop h hrest

/-- The on operations, which variant A alone has. -/
theorem motOn_mem_heldOps {v : MotVariant} (hv : v = .a) (m : MotorId) :
    .motOn m ∈ heldOps v (TimerOp.source v (.motOn m)) := by subst hv; cases m <;> decide

/-- Either variant has the off operations and those of the ESC timer. -/
theorem motOff_mem_heldOps (v : MotVariant) (m : MotorId) :
    .motOff m ∈ heldOps v (TimerOp.source v (.motOff m)) := by cases v <;> cases m <;> decide

/-- The overflow operation, which variant B alone has. -/
theorem motOvf_mem_heldOps {v : MotVariant} (hv : v = .b) :
    .motOvf ∈ heldOps v (TimerOp.source v .motOvf) := by subst hv; decide

theorem escAssert_mem_heldOps (v : MotVariant) :
    .escAssert ∈ heldOps v (TimerOp.source v .escAssert) := by cases v <;> decide
theorem escDeassert_mem_heldOps (v : MotVariant) :
    .escDeassert ∈ heldOps v (TimerOp.source v .escDeassert) := by cases v <;> decide

/-- The counts after a tick of one timer (`42_motor_driver.md` R210). -/
inductive TimersTick (c : Config) (r : Timers) : Timers → Prop
  | brushed (hv : c.motVariant = .a) (m : MotorId) :
      TimersTick c r (r.setTcnt m (BitVec.ofNat 16 (nextCount (r.tcnt m) c.motTopA)))
  | shared (hv : c.motVariant = .b) :
      TimersTick c r { r with tcnt0 := BitVec.ofNat 16 (nextCount r.tcnt0 Config.motTopB) }
  | esc : TimersTick c r { r with esccnt := BitVec.ofNat 16 (nextCount r.esccnt c.escFrame) }

theorem tickBrushed_next {m : MotorId} (hv : s.cfg.motVariant = .a) (h : tickBrushed m s = .next t) :
    ∃ r, TimersTick s.cfg s.tmr r ∧ DueRun { s with tmr := r } t := by
  refine ⟨_, .brushed hv m, ?_⟩
  obtain ⟨u, hon, hoff⟩ := andThen_eq_next.mp h
  refine .dueIf (motOn_mem_heldOps hv m) hon ?_
  exact .dueIf (motOff_mem_heldOps _ m) hoff (.nil t)

theorem tickShared_next (hv : s.cfg.motVariant = .b) (h : tickShared s = .next t) :
    ∃ r, TimersTick s.cfg s.tmr r ∧ DueRun { s with tmr := r } t := by
  refine ⟨_, .shared hv, ?_⟩
  obtain ⟨u, hovf, h⟩ := andThen_eq_next.mp h
  obtain ⟨w, hoff0, hoff1⟩ := andThen_eq_next.mp h
  refine .dueIf (motOvf_mem_heldOps hv) hovf ?_
  refine .dueIf (motOff_mem_heldOps _ .m0) hoff0 ?_
  exact .dueIf (motOff_mem_heldOps _ .m1) hoff1 (.nil t)

theorem tickEsc_next (h : tickEsc s = .next t) :
    ∃ r, TimersTick s.cfg s.tmr r ∧ DueRun { s with tmr := r } t := by
  refine ⟨_, .esc, ?_⟩
  obtain ⟨u, hon, hoff⟩ := andThen_eq_next.mp h
  refine .dueIf (escAssert_mem_heldOps _) hon ?_
  exact .dueIf (escDeassert_mem_heldOps _) hoff (.nil t)

/-- TMR.TICK counts on one timer, and then what its count meets falls due. -/
theorem execTmrTick_next {k : BitVec 2} (h : execTmrTick k s = .next t) :
    ∃ r, TimersTick s.cfg s.tmr r ∧ DueRun { s with tmr := r } t := by
  unfold execTmrTick at h
  split at h
  · split at h
    · next hv => exact tickBrushed_next hv h
    · next hv => exact tickShared_next hv h
  · split at h
    · next hv => exact tickBrushed_next hv h
    · cases h
  · exact tickEsc_next h
  · cases h

/-- A timer operation: at most one timer has counted on, and then operations fall due. -/
theorem exec_timerEvent_next {i : Instr} (hi : mayDrivePins i = true) (hh : isHostOp i = false)
    (h : exec i s = .next t) :
    ∃ r, (r = s.tmr ∨ TimersTick s.cfg s.tmr r) ∧ DueRun { s with tmr := r } t := by
  have run {op : TimerOp} (hop : op ∈ heldOps s.cfg.motVariant (op.source s.cfg.motVariant))
      (h : due op s = .next t) : ∃ r, (r = s.tmr ∨ TimersTick s.cfg s.tmr r) ∧ DueRun { s with tmr := r } t :=
    ⟨_, .inl rfl, .cons op hop h (.nil t)⟩
  cases i with
  | motOn m =>
    by_cases hv : s.cfg.motVariant = .a
    · exact run (motOn_mem_heldOps hv m) ((if_pos hv).symm.trans h)
    · cases (if_neg hv).symm.trans h
  | motOff m => exact run (motOff_mem_heldOps _ m) h
  | motOvf =>
    by_cases hv : s.cfg.motVariant = .b
    · exact run (motOvf_mem_heldOps hv) ((if_pos hv).symm.trans h)
    · cases (if_neg hv).symm.trans h
  | escAssert => exact run (escAssert_mem_heldOps _) h
  | escDeassert => exact run (escDeassert_mem_heldOps _) h
  | tmrTick k =>
    obtain ⟨r, htick, hrun⟩ := execTmrTick_next h
    exact ⟨r, .inr htick, hrun⟩
  | irqEnable => cases hh
  | _ => cases hi

/-! What IRQ.ENABLE serves. -/

/-- The held sampler tick is run, and none is left. -/
theorem serveSource_sampler_next (h : serveSource .sampler s = .next t) :
    t = { s with pd := t.pd, irq := { s.irq with pendSampler := false } } := by
  simp only [serveSource] at h
  split at h
  · rw [samplerTick_next h]
  · next hp =>
    obtain rfl := Host.Outcome.next.inj h
    rw [← Bool.eq_false_of_not_eq_true hp]

/-- The held display tick is run, and none is left. -/
theorem serveSource_display_next (h : serveSource .display s = .next t) :
    t = { s with tickn := t.tickn, tickm := t.tickm, irq := { s.irq with pendDisplay := false } } := by
  simp only [serveSource] at h
  split at h
  · obtain rfl := Host.Outcome.next.inj h; rfl
  · next hp =>
    obtain rfl := Host.Outcome.next.inj h
    rw [← Bool.eq_false_of_not_eq_true hp]

/-- A source that has just been enabled is served: what is pending of it has run, and nothing is left. -/
inductive Served (s : State) : Source → State → Prop
  | bus {t : State} (h : t = { s with bus := t.bus, eng := t.eng }) (he : t.eng.evt = none) : Served s .bus t
  | sampler {t : State} (h : t = { s with pd := t.pd, irq := { s.irq with pendSampler := false } }) :
      Served s .sampler t
  | display {t : State} (h : t = { s with
      tickn := t.tickn, tickm := t.tickm, irq := { s.irq with pendDisplay := false } }) : Served s .display t
  | timer {u : State} {src : Source} (hsrc : src = .brushed0 ∨ src = .brushed1 ∨ src = .esc) (hu : PinsOnly s u) :
      Served s src { u with irq := u.irq.setPend src [] }

theorem served_of_serveSource {src : Source} (h : serveSource src s = .next t) : Served s src t := by
  have timer (hsrc : src = .brushed0 ∨ src = .brushed1 ∨ src = .esc) : Served s src t := by
    obtain ⟨u, -, hu, rfl⟩ := serveSource_timer_next hsrc h
    exact .timer hsrc hu
  cases src with
  | bus => exact .bus (servePending_frame h).1 (servePending_frame h).2
  | sampler => exact .sampler (serveSource_sampler_next h)
  | display => exact .display (serveSource_display_next h)
  | brushed0 | brushed1 | esc => exact timer (by simp)

/-- IRQ.ENABLE enables its source and serves it. -/
theorem execIrqEnable_served {k : BitVec 3} (h : execIrqEnable k s = .next t) :
    ∃ src, sourceOf s.cfg.motVariant k = some src ∧ Served { s with irq := s.irq.setEn src true } src t := by
  obtain ⟨-, src, hsrc, h⟩ := execIrqEnable_next h
  exact ⟨src, hsrc, served_of_serveSource h⟩

/-! The ranges of the counters and of the latched thresholds. -/

/-- The counters are below their periods (`10_state.md` R44). -/
def CountersOk (c : Config) (r : Timers) : Prop :=
  (match c.motVariant with
    | .a => ∀ m, (r.tcnt m).toNat < c.motTopA
    | .b => r.tcnt0.toNat < Config.motTopB) ∧
  r.esccnt.toNat < c.escFrame

/-- A latched off threshold is in its range (`10_state.md` R42). -/
def ThresholdOk (c : Config) (m : Motor) : Prop :=
  m.offthrSet = true → m.offthr.toNat ≤ match c.motVariant with | .a => c.motTopA | .b => 255

/-- A latched pulse width is in its range (`10_state.md` R43). -/
def WidthOk (c : Config) (e : Esc) : Prop :=
  e.escwidthSet = true → c.escWMin ≤ e.escwidth.toNat ∧ e.escwidth.toNat ≤ c.escWMax

/-- Both motors, one by one. -/
theorem forall_motorId {p : MotorId → Prop} : (∀ m, p m) ↔ p .m0 ∧ p .m1 :=
  ⟨fun h => ⟨h .m0, h .m1⟩, fun ⟨h0, h1⟩ m => by cases m <;> assumption⟩

/-- The timers' invariant, by its three parts. -/
theorem timerInv_iff : TimerInv s ↔
    CountersOk s.cfg s.tmr ∧ (∀ m, ThresholdOk s.cfg (s.motor m)) ∧ WidthOk s.cfg s.esc := by
  unfold TimerInv CountersOk ThresholdOk WidthOk
  simp only [forall_motorId, motor_m0, motor_m1]
  cases s.cfg.motVariant <;> simp only [Timers.tcnt, Config.motTopB] <;> tauto

/-- The timers' invariant looks at the parameters, the counters and the latched values only. -/
theorem timerInv_of_same (hc : t.cfg = s.cfg) (hr : t.tmr = s.tmr)
    (hm : ∀ m, (t.motor m).offthrSet = (s.motor m).offthrSet ∧ (t.motor m).offthr = (s.motor m).offthr)
    (he : t.esc.escwidthSet = s.esc.escwidthSet ∧ t.esc.escwidth = s.esc.escwidth) (hs : TimerInv s) :
    TimerInv t := by
  obtain ⟨hcount, hthr, hwidth⟩ := timerInv_iff.mp hs
  refine timerInv_iff.mpr ⟨?_, fun m => ?_, ?_⟩
  · rwa [hc, hr]
  · obtain ⟨hset, hval⟩ := hm m
    unfold ThresholdOk
    rw [hc, hset, hval]
    exact hthr m
  · unfold WidthOk
    rw [hc, he.1, he.2]
    exact hwidth

theorem PinsOnly.timerInv (h : PinsOnly s t) (hs : TimerInv s) : TimerInv t := by
  obtain ⟨hstate, hmot, hesc⟩ := h
  exact timerInv_of_same (by rw [hstate]) (by rw [hstate]) (fun m => by rw [hmot m]; exact ⟨rfl, rfl⟩)
    (by rw [hesc]; exact ⟨rfl, rfl⟩) hs

theorem CommandsOnly.timerInv (h : CommandsOnly s t) (hs : TimerInv s) : TimerInv t := by
  obtain ⟨hstate, hmot, hesc⟩ := h
  exact timerInv_of_same (by rw [hstate]) (by rw [hstate]) (fun m => by rw [hmot m]; exact ⟨rfl, rfl⟩)
    (by rw [hesc]; exact ⟨rfl, rfl⟩) hs

/-- The next count of a counter below its period is below it. -/
theorem nextCount_lt {v w : Word16} {top : Nat} (h : w.toNat < top) :
    (BitVec.ofNat 16 (nextCount v top)).toNat < top := by
  have hmod : nextCount v top < top := Nat.mod_lt _ (by omega)
  rw [BitVec.toNat_ofNat]
  exact (Nat.mod_le _ _).trans_lt hmod

/-- A tick keeps the counters below their periods. -/
theorem TimersTick.countersOk {c : Config} {r r' : Timers} (h : TimersTick c r r') (hr : CountersOk c r) :
    CountersOk c r' := by
  obtain ⟨hbrushed, hesc⟩ := hr
  cases h with
  | brushed hv m =>
    rw [hv] at hbrushed
    refine ⟨?_, by simpa using hesc⟩
    rw [hv]
    intro k
    by_cases hk : k = m
    · rw [hk, setTcnt_tcnt]; exact nextCount_lt (hbrushed m)
    · rw [setTcnt_tcnt_other r hk]; exact hbrushed k
  | shared hv =>
    rw [hv] at hbrushed
    refine ⟨?_, hesc⟩
    rw [hv]
    exact nextCount_lt hbrushed
  | esc => exact ⟨hbrushed, nextCount_lt hesc⟩

/-- A magnitude is at most full scale. -/
theorem mag_le (p : Word16) : mag p ≤ 255 := Nat.min_le_right _ _

/-- A part of at most 255 of 255 of a span is at most the span. -/
theorem scaled_le {q : Nat} (span : Nat) (hq : q ≤ 255) : q * span / 255 ≤ span :=
  Nat.div_le_of_le_mul (Nat.mul_le_mul_right span hq)

/-- A recomputed threshold is in its range (`42_motor_driver.md` R196). -/
theorem thresholdOk_recomp (c : Config) (m : Motor) : ThresholdOk c (m.recomp c) := by
  intro _
  unfold Motor.recomp offThreshold
  cases c.motVariant
  · exact (BitVec.toNat_ofNat _ _).trans_le ((Nat.mod_le _ _).trans (scaled_le _ (mag_le _)))
  · exact (BitVec.toNat_ofNat _ _).trans_le ((Nat.mod_le _ _).trans (mag_le _))

/-- A recomputed pulse width is in its range (`42_motor_driver.md` R207). -/
theorem escWidth_mem_range {c : Config} (hv : c.Valid) (p : Byte) :
    c.escWMin ≤ (escWidth c p).toNat ∧ (escWidth c p).toNat ≤ c.escWMax := by
  obtain ⟨-, -, -, -, -, -, -, ⟨-, hlt, hframe, hmax⟩, -⟩ := hv
  have hpart : p.toNat * (c.escWMax - c.escWMin) / 255 ≤ c.escWMax - c.escWMin := scaled_le _ (by omega)
  unfold escWidth
  rw [BitVec.toNat_ofNat, Nat.mod_eq_of_lt (by omega)]
  omega

/-- MOT.RECOMP latches values in their ranges. -/
theorem execMotRecomp_timerInv (hv : s.cfg.Valid) (hs : TimerInv s) (h : execMotRecomp s = .next t) :
    TimerInv t := by
  obtain rfl := execMotRecomp_next h
  obtain ⟨hcount, -, -⟩ := timerInv_iff.mp hs
  exact timerInv_iff.mpr ⟨hcount, fun m => by cases m <;> exact thresholdOk_recomp _ _,
    fun _ => escWidth_mem_range hv _⟩

/-- A due operation writes no counter and no latched value. -/
theorem due_timerInv {op : TimerOp} (h : due op s = .next t) (hs : TimerInv s) : TimerInv t := by
  obtain hp | ⟨-, rfl⟩ := due_pins_or_hold h
  · exact hp.timerInv hs
  · exact hs

/-- A timer operation keeps the ranges: the tick counts below the period, what falls due writes no count. -/
theorem exec_timerEvent_timerInv {i : Instr} (hi : mayDrivePins i = true) (hh : isHostOp i = false)
    (hs : TimerInv s) (h : exec i s = .next t) : TimerInv t := by
  obtain ⟨r, hr, hrun⟩ := exec_timerEvent_next hi hh h
  obtain ⟨hcount, hlatched⟩ := timerInv_iff.mp hs
  have hcount' : CountersOk s.cfg r := by
    obtain rfl | htick := hr
    · exact hcount
    · exact htick.countersOk hcount
  exact hrun.keeps (fun _ _ _ _ hd => due_timerInv hd) (timerInv_iff.mpr ⟨hcount', hlatched⟩)

/-- What IRQ.ENABLE serves writes no counter and no latched value. -/
theorem Served.timerInv {src : Source} (h : Served s src t) (hs : TimerInv s) : TimerInv t := by
  cases h with
  | bus h _ => rw [h]; exact hs
  | sampler h => rw [h]; exact hs
  | display h => rw [h]; exact hs
  | timer _ hu => exact hu.timerInv hs

theorem exec_timerInv {i : Instr} (hv : s.cfg.Valid) (hs : TimerInv s) (h : exec i s = .next t) : TimerInv t := by
  obtain hb | hm | ⟨k, rfl⟩ | ⟨hp, hh⟩ | ⟨hb, hm, hp⟩ := instr_families i
  · rw [exec_bus_frame hb h]; exact hs
  · obtain hset | ⟨rfl, hrecomp⟩ := exec_motorCommand_next hm h
    · exact hset.timerInv hs
    · exact execMotRecomp_timerInv hv hs hrecomp
  · obtain ⟨src, -, hserved⟩ := execIrqEnable_served h
    exact hserved.timerInv hs
  · exact exec_timerEvent_timerInv hp hh hs h
  · rw [exec_sensing_frame hb hm hp h]; exact hs

/-! The form of the pending lists. -/

/-- The pending lists' invariant, for all sources alike: those that are no timer's hold no list. -/
theorem pendInv_iff : PendInv s ↔ (∀ src, PendListOk s src) ∧
    (s.irq.enSampler = true → s.irq.pendSampler = false) ∧ (s.irq.enDisplay = true → s.irq.pendDisplay = false) ∧
    (s.irq.enBus = true → s.eng.evt = none) := by
  constructor
  · rintro ⟨h2, h3, h4, hrest⟩
    refine ⟨fun src => ?_, hrest⟩
    cases src with
    | bus | sampler | display => simp [PendListOk, Irq.pend]
    | brushed0 => exact h2
    | brushed1 => exact h3
    | esc => exact h4
  · rintro ⟨hlists, hrest⟩
    exact ⟨hlists _, hlists _, hlists _, hrest⟩

/-- The pending lists' invariant looks at the parameters, the interrupt state and the pending bus event only. -/
theorem pendInv_of_same (hc : t.cfg = s.cfg) (hq : t.irq = s.irq) (he : s.irq.enBus = true → t.eng.evt = none)
    (hs : PendInv s) : PendInv t := by
  obtain ⟨hlists, hsampler, hdisplay, -⟩ := pendInv_iff.mp hs
  refine pendInv_iff.mpr ?_
  unfold PendListOk
  rw [hc, hq]
  exact ⟨hlists, hsampler, hdisplay, he⟩

/-- The form of a list looks at the parameters, the list and its source's enable bit only. -/
theorem pendListOk_of_same {src : Source} (hc : t.cfg = s.cfg) (hp : t.irq.pend src = s.irq.pend src)
    (hen : t.irq.en src = s.irq.en src) (hs : PendListOk s src) : PendListOk t src := by
  unfold PendListOk
  rw [hc, hp, hen]
  exact hs

/-! The held sampler tick and the held display tick are in no list, and they enable nothing. -/

@[simp] theorem pend_set_pendSampler (q : Irq) (b : Bool) (src : Source) :
    Irq.pend { q with pendSampler := b } src = q.pend src := by cases src <;> rfl
@[simp] theorem en_set_pendSampler (q : Irq) (b : Bool) (src : Source) :
    Irq.en { q with pendSampler := b } src = q.en src := by cases src <;> rfl
@[simp] theorem pend_set_pendDisplay (q : Irq) (b : Bool) (src : Source) :
    Irq.pend { q with pendDisplay := b } src = q.pend src := by cases src <;> rfl
@[simp] theorem en_set_pendDisplay (q : Irq) (b : Bool) (src : Source) :
    Irq.en { q with pendDisplay := b } src = q.en src := by cases src <;> rfl

/-! The lists under the updates of the interrupt state. -/

/-- Holding an operation of the disabled source it belongs to keeps the form of every list. -/
theorem pendListOk_hold {op : TimerOp} (hop : op ∈ heldOps s.cfg.motVariant (op.source s.cfg.motVariant))
    (hen : s.irq.en (op.source s.cfg.motVariant) = false) {src : Source} (hs : PendListOk s src) :
    PendListOk { s with irq := s.irq.hold (op.source s.cfg.motVariant) op } src := by
  by_cases hmem : op ∈ s.irq.pend (op.source s.cfg.motVariant)
  · rw [hold_of_mem _ hmem]; exact hs
  obtain ⟨hnodup, hheld, hempty⟩ := hs
  by_cases hsrc : src = op.source s.cfg.motVariant
  · subst hsrc
    unfold PendListOk
    rw [hold_pend_source _ hmem, hold_en]
    refine ⟨by simpa using hnodup.concat hmem, fun o ho => ?_, fun hen' => ?_⟩
    · obtain ho | ho := List.mem_append.mp ho
      · exact hheld o ho
      · exact List.mem_singleton.mp ho ▸ hop
    · exact absurd hen' (by simp [hen])
  · unfold PendListOk
    rw [hold_pend_other _ hsrc, hold_en]
    exact ⟨hnodup, hheld, hempty⟩

/-- An enable bit that is cleared, or set with nothing pending, keeps the form of every list. -/
theorem pendListOk_setEn {src other : Source} {v : Bool} (hv : v = true → s.irq.pend src = [])
    (hs : PendListOk s other) : PendListOk { s with irq := s.irq.setEn src v } other := by
  obtain ⟨hnodup, hheld, hempty⟩ := hs
  unfold PendListOk
  rw [setEn_pend]
  refine ⟨hnodup, hheld, fun hen => ?_⟩
  by_cases ho : other = src
  · subst ho
    exact hv (by rwa [setEn_en] at hen)
  · exact hempty (by rwa [setEn_en_other _ ho] at hen)

/-- A source enabled and its list emptied: every list keeps its form. -/
theorem pendListOk_serve {src other : Source} (hsrc : src = .brushed0 ∨ src = .brushed1 ∨ src = .esc)
    (hs : PendListOk s other) :
    PendListOk { s with irq := (s.irq.setEn src true).setPend src [] } other := by
  unfold PendListOk
  by_cases ho : other = src
  · subst ho
    have hnil : ((s.irq.setEn other true).setPend other []).pend other = [] := by
      obtain rfl | rfl | rfl := hsrc <;> rfl
    simp [hnil]
  · rw [setPend_en, setPend_pend_other _ ho, setEn_pend, setEn_en_other _ ho]
    exact hs

/-- Clearing an enable bit enables no source. -/
theorem en_of_setEn_false {q : Irq} {src other : Source} (h : (q.setEn src false).en other = true) :
    q.en other = true := by
  by_cases ho : other = src
  · rw [ho, setEn_en] at h; cases h
  · rwa [setEn_en_other q ho] at h

/-- A due operation the variant has is held in its place, or runs and leaves the interrupt state as it was. -/
theorem due_pendInv {op : TimerOp} (hop : op ∈ heldOps s.cfg.motVariant (op.source s.cfg.motVariant))
    (h : due op s = .next t) (hs : PendInv s) : PendInv t := by
  obtain ⟨hlists, hsampler, hdisplay, hbus⟩ := pendInv_iff.mp hs
  obtain ⟨hstate, -, -⟩ | ⟨hen, rfl⟩ := due_pins_or_hold h
  · exact pendInv_of_same (by rw [hstate]) (by rw [hstate]) (by rw [hstate]; exact hbus) hs
  · refine pendInv_iff.mpr ⟨fun src => pendListOk_hold hop hen (hlists src), ?_, ?_, ?_⟩
    · rw [hold_pendSampler]; exact fun he => hsampler ((hold_en _ _ .sampler op).symm.trans he)
    · rw [hold_pendDisplay]; exact fun he => hdisplay ((hold_en _ _ .display op).symm.trans he)
    · exact fun he => hbus ((hold_en _ _ .bus op).symm.trans he)

theorem exec_timerEvent_pendInv {i : Instr} (hi : mayDrivePins i = true) (hh : isHostOp i = false) (hs : PendInv s)
    (h : exec i s = .next t) : PendInv t := by
  obtain ⟨r, -, hrun⟩ := exec_timerEvent_next hi hh h
  exact hrun.keeps (fun _ _ _ hop hd => due_pendInv hop hd) hs

theorem execIrqDisable_pendInv {k : BitVec 3} (h : execIrqDisable k s = .next t) (hs : PendInv s) : PendInv t := by
  obtain ⟨src, -, rfl⟩ := execIrqDisable_next h
  obtain ⟨hlists, hsampler, hdisplay, hbus⟩ := pendInv_iff.mp hs
  refine pendInv_iff.mpr ⟨fun other => pendListOk_setEn (fun hv => by cases hv) (hlists other), ?_, ?_, ?_⟩
  · rw [setEn_pendSampler]; exact fun he => hsampler (en_of_setEn_false (other := .sampler) he)
  · rw [setEn_pendDisplay]; exact fun he => hdisplay (en_of_setEn_false (other := .display) he)
  · exact fun he => hbus (en_of_setEn_false (other := .bus) he)

/-- A source that has been enabled and served has nothing pending. -/
theorem Served.pendInv {src : Source} (h : Served { s with irq := s.irq.setEn src true } src t) (hs : PendInv s) :
    PendInv t := by
  obtain ⟨hlists, hsampler, hdisplay, hbus⟩ := pendInv_iff.mp hs
  cases h with
  | bus h he =>
    have hlists' := fun other => pendListOk_setEn (src := .bus) (v := true) (fun _ => rfl) (hlists other)
    rw [h]
    exact pendInv_iff.mpr ⟨hlists', hsampler, hdisplay, fun _ => he⟩
  | sampler h =>
    have hlists' := fun other => pendListOk_setEn (src := .sampler) (v := true) (fun _ => rfl) (hlists other)
    rw [h]
    refine pendInv_iff.mpr ⟨fun other => ?_, fun _ => rfl, hdisplay, hbus⟩
    exact pendListOk_of_same rfl (pend_set_pendSampler _ _ _) (en_set_pendSampler _ _ _) (hlists' other)
  | display h =>
    have hlists' := fun other => pendListOk_setEn (src := .display) (v := true) (fun _ => rfl) (hlists other)
    rw [h]
    refine pendInv_iff.mpr ⟨fun other => ?_, hsampler, fun _ => rfl, hbus⟩
    exact pendListOk_of_same rfl (pend_set_pendDisplay _ _ _) (en_set_pendDisplay _ _ _) (hlists' other)
  | timer hsrc hu =>
    have hlists' := fun other => pendListOk_serve hsrc (hlists other)
    obtain ⟨hstate, -, -⟩ := hu
    rw [hstate]
    refine pendInv_iff.mpr ⟨hlists', ?_⟩
    obtain rfl | rfl | rfl := hsrc <;> exact ⟨hsampler, hdisplay, hbus⟩

/-- The decoder's, the filter's and the scheduler's operations hold an event on a disabled source only. -/
theorem exec_sensing_pendInv {i : Instr} (hb : isBusOp i = false) (hm : isMotorCommand i = false)
    (hp : mayDrivePins i = false) (hs : PendInv s) (h : exec i s = .next t) : PendInv t := by
  obtain ⟨hlists, hsampler, hdisplay, hbus⟩ := pendInv_iff.mp hs
  cases i with
  | pdTick =>
    obtain ⟨_, rfl, ⟨-, rfl⟩ | ⟨hen, rfl⟩⟩ := execPdTick_next h
    · exact hs
    · refine pendInv_iff.mpr ⟨fun src => ?_, fun he => absurd he (by simp [hen]), hdisplay, hbus⟩
      exact pendListOk_of_same rfl (pend_set_pendSampler _ _ _) (en_set_pendSampler _ _ _) (hlists src)
  | schDtick =>
    obtain ⟨-, rfl⟩ | ⟨hen, rfl⟩ := execSchDtick_next h
    · exact hs
    · refine pendInv_iff.mpr ⟨fun src => ?_, hsampler, fun he => absurd he (by simp [hen]), hbus⟩
      exact pendListOk_of_same rfl (pend_set_pendDisplay _ _ _) (en_set_pendDisplay _ _ _) (hlists src)
  | irqDisable => exact execIrqDisable_pendInv h hs
  | pdRead => obtain ⟨_, rfl⟩ := execPdRead_next h; exact hs
  | pdReadshut => obtain rfl := pdReadshut_gives rfl h; exact hs
  | oriUpdate => obtain rfl := Host.Outcome.next.inj (hostOp_eq_next.mp h).2; exact hs
  | oriSign => obtain rfl := oriSign_gives h; exact hs
  | schTake k => obtain rfl | rfl := execSchTake_next h <;> cases k <;> exact hs
  | busInit | busSend | busRecv | busRet => cases hb
  | evStart | evRstart | evSlawAck | evSlawNack | evTxdAck | evTxdNack | evSlarAck | evSlarNack => cases hb
  | evRxdAck | evRxdNack | evOther | evStopdone => cases hb
  | motSetb | motSete | motShut | motRecomp | motSetbl | motSetbh => cases hm
  | motOn | motOff | motOvf | escAssert | escDeassert | tmrTick | irqEnable => cases hp

/-- BusDriver's operations leave no event pending of the enabled source: a call entry and BUS.INIT clear the event,
and an enabled handler consumes it. -/
theorem exec_bus_pendInv {i : Instr} (hi : isBusOp i = true) (hs : PendInv s) (h : exec i s = .next t) :
    PendInv t := by
  obtain ⟨hlists, hsampler, hdisplay, hbus⟩ := pendInv_iff.mp hs
  cases i with
  | busInit =>
    obtain ⟨-, -, _, -, rfl⟩ := execBusInit_eq_next.mp h
    have hlists' := fun other => pendListOk_setEn (src := .bus) (v := true) (fun _ => rfl) (hlists other)
    exact pendInv_iff.mpr ⟨hlists', hsampler, hdisplay, fun _ => rfl⟩
  | busSend | busRecv =>
    obtain ⟨-, -, -, -, -, h⟩ := callEntry_eq_next.mp h
    obtain rfl := Host.Outcome.next.inj h
    exact pendInv_of_same (s := s) rfl rfl (fun _ => rfl) hs
  | busRet => obtain ⟨-, -, -, _, rfl⟩ := execBusRet_next h; exact hs
  | evStart | evRstart | evSlawAck | evSlawNack | evTxdAck | evTxdNack | evSlarAck | evSlarNack | evRxdAck
  | evRxdNack =>
    obtain ⟨hf, he⟩ := busEvent_frame h
    exact pendInv_of_same (by rw [hf]) (by rw [hf]) he hs
  | evOther =>
    obtain ⟨hf, he⟩ := execEvOther_frame h
    exact pendInv_of_same (by rw [hf]) (by rw [hf]) he hs
  | evStopdone => obtain ⟨-, rfl⟩ := execEvStopdone_next h; exact pendInv_of_same rfl rfl hbus hs
  | _ => cases hi

theorem exec_pendInv {i : Instr} (hs : PendInv s) (h : exec i s = .next t) : PendInv t := by
  obtain hb | hm | ⟨k, rfl⟩ | ⟨hp, hh⟩ | ⟨hb, hm, hp⟩ := instr_families i
  · exact exec_bus_pendInv hb hs h
  · rw [exec_motorCommand_frame hm h]; exact hs
  · obtain ⟨src, -, hserved⟩ := execIrqEnable_served h
    exact hserved.pendInv hs
  · exact exec_timerEvent_pendInv hp hh hs h
  · exact exec_sensing_pendInv hb hm hp hs h

/-! The host's block. -/

/-- The host's own operations, but for BUS.RET, are refused while it is blocked. -/
theorem exec_hostOp_free {i : Instr} (hi : isHostOp i = true) (hret : i ≠ .busRet) (h : exec i s = .next t) :
    s.blocked = .none := by
  cases i with
  | busInit => exact (execBusInit_eq_next.mp h).1
  | busSend | busRecv => exact (callEntry_eq_next.mp h).1
  | busRet => exact absurd rfl hret
  | pdRead | pdReadshut | oriUpdate | oriSign | irqDisable | irqEnable | schTake => exact (hostOp_eq_next.mp h).1
  | motSetb | motSete | motShut | motRecomp | motSetbl | motSetbh => exact (hostOp_eq_next.mp h).1
  | _ => cases hi

/-- BusDriver's operations other than the call entries and BUS.RET leave the host's block as it is. -/
theorem exec_bus_blocked {i : Instr} (hi : isBusOp i = true) (h : exec i s = .next t)
    (hsend : ∀ p, i ≠ .busSend p) (hrecv : ∀ n, i ≠ .busRecv n) (hret : i ≠ .busRet) : t.blocked = s.blocked := by
  cases i with
  | busInit => obtain ⟨-, -, _, -, rfl⟩ := execBusInit_eq_next.mp h; rfl
  | busSend p => exact absurd rfl (hsend p)
  | busRecv n => exact absurd rfl (hrecv n)
  | busRet => exact absurd rfl hret
  | evStart | evRstart | evSlawAck | evSlawNack | evTxdAck | evTxdNack | evSlarAck | evSlarNack | evRxdAck
  | evRxdNack => rw [(busEvent_frame h).1]
  | evOther => rw [(execEvOther_frame h).1]
  | evStopdone => obtain ⟨-, rfl⟩ := execEvStopdone_next h; rfl
  | _ => cases hi

theorem due_blocked {op : TimerOp} (h : due op s = .next t) : t.blocked = s.blocked := by
  obtain ⟨hstate, -, -⟩ | ⟨-, rfl⟩ := due_pins_or_hold h
  · rw [hstate]
  · rfl

theorem Served.blocked {src : Source} (h : Served s src t) : t.blocked = s.blocked := by
  cases h with
  | bus h _ => rw [h]
  | sampler h => rw [h]
  | display h => rw [h]
  | timer _ hu => obtain ⟨hstate, -, -⟩ := hu; rw [hstate]

/-- Every operation but the call entries and BUS.RET leaves the host's block as it is. -/
theorem exec_blocked {i : Instr} (h : exec i s = .next t) (hsend : ∀ p, i ≠ .busSend p)
    (hrecv : ∀ n, i ≠ .busRecv n) (hret : i ≠ .busRet) : t.blocked = s.blocked := by
  obtain hb | hm | ⟨k, rfl⟩ | ⟨hp, hh⟩ | ⟨hb, hm, hp⟩ := instr_families i
  · exact exec_bus_blocked hb h hsend hrecv hret
  · rw [exec_motorCommand_frame hm h]
  · obtain ⟨src, -, hserved⟩ := execIrqEnable_served h
    exact hserved.blocked
  · obtain ⟨r, -, hrun⟩ := exec_timerEvent_next hp hh h
    exact hrun.keeps (P := fun u => u.blocked = s.blocked) (fun _ _ _ _ hd hu => (due_blocked hd).trans hu) rfl
  · rw [exec_sensing_frame hb hm hp h]

/-! The output pins. -/

/-- The pins and the pin trace are as they were (`10_state.md` R45). -/
def SamePins (s t : State) : Prop :=
  t.pinlog = s.pinlog ∧ t.esc.pinesc = s.esc.pinesc ∧ t.esc.pinescSet = s.esc.pinescSet ∧
  ∀ m, (t.motor m).pinA = (s.motor m).pinA ∧ (t.motor m).pinB = (s.motor m).pinB ∧
    (t.motor m).pinsSet = (s.motor m).pinsSet

theorem SamePins.refl (s : State) : SamePins s s := ⟨rfl, rfl, rfl, fun _ => ⟨rfl, rfl, rfl⟩⟩

theorem CommandsOnly.samePins (h : CommandsOnly s t) : SamePins s t := by
  obtain ⟨hstate, hmot, hesc⟩ := h
  exact ⟨by rw [hstate], by rw [hesc], by rw [hesc], fun m => by rw [hmot m]; exact ⟨rfl, rfl, rfl⟩⟩

theorem execMotRecomp_samePins (h : execMotRecomp s = .next t) : SamePins s t := by
  obtain rfl := execMotRecomp_next h
  exact ⟨rfl, rfl, rfl, fun m => by cases m <;> exact ⟨rfl, rfl, rfl⟩⟩

/-- An operation that performs no motor or ESC handler drives no pin. -/
theorem exec_samePins {i : Instr} (hi : mayDrivePins i = false) (h : exec i s = .next t) : SamePins s t := by
  obtain hb | hm | ⟨k, rfl⟩ | ⟨hp, -⟩ | ⟨hb, hm, hp⟩ := instr_families i
  · rw [exec_bus_frame hb h]; exact .refl s
  · obtain hset | ⟨rfl, hrecomp⟩ := exec_motorCommand_next hm h
    · exact hset.samePins
    · exact execMotRecomp_samePins hrecomp
  · cases hi
  · exact absurd hp (by simp [hi])
  · rw [exec_sensing_frame hb hm hp h]; exact .refl s

/-! The statements. -/

/-- Settles O16, from the families of operations. -/
theorem stepKeepsTimerRanges : Obligations.StepKeepsTimerRanges :=
  fun _ _ hs h => step_keeps (fun _ _ _ hs => hs) (fun _ _ _ hv hs he => exec_timerInv hv hs he) hs h

/-- Settles O17, from the families of operations; the bus invariant is not needed. -/
theorem stepKeepsPendingForm : Obligations.StepKeepsPendingForm :=
  fun _ _ _ hs h => step_keeps (fun _ _ _ hs => hs) (fun _ _ _ _ hs he => exec_pendInv hs he) hs h

/-- Settles O19: a blocked host is not free, and the three operations that change the block set it as stated. -/
theorem blockedHostOnlyReturns : Obligations.BlockedHostOnlyReturns := by
  refine ⟨fun i s t hblocked hi h => ?_, fun i s t h hchanged => ?_⟩
  · by_contra hret
    exact hblocked (exec_hostOp_free hi hret h)
  · by_cases hsend : ∃ p, i = .busSend p
    · obtain ⟨p, rfl⟩ := hsend
      obtain ⟨-, -, -, -, -, h⟩ := callEntry_eq_next.mp h
      exact .inl ⟨⟨p, rfl⟩, by rw [← Host.Outcome.next.inj h]; rfl⟩
    by_cases hrecv : ∃ n, i = .busRecv n
    · obtain ⟨n, rfl⟩ := hrecv
      obtain ⟨-, -, -, -, -, h⟩ := callEntry_eq_next.mp h
      exact .inr (.inl ⟨⟨n, rfl⟩, by rw [← Host.Outcome.next.inj h]; rfl⟩)
    by_cases hret : i = .busRet
    · subst hret
      obtain ⟨-, -, -, _, rfl⟩ := execBusRet_next h
      exact .inr (.inr ⟨rfl, rfl⟩)
    · exact absurd (exec_blocked h (not_exists.mp hsend) (not_exists.mp hrecv) hret) hchanged

/-- Settles O21. -/
theorem pinsOnlyDrivenByHandlers : Obligations.PinsOnlyDrivenByHandlers :=
  fun _ _ _ hi h => exec_samePins hi h

end Sys2Proof.Machine

/-!
The memory (`20_memory.md`): who may write BusDriver's fields (R77), and the form of the transaction buffer (R60, R85).
First the operations of the other families, which leave all of BusDriver alone; then the writes of the buffer that the
operations of classes 0 and 1 and the handler of a held event make.
-/

namespace Sys2Proof.Machine

variable {s t : State}

/-! The operations outside BusDriver. -/

/-- BusDriver's fields, the byte engine, the host's block and the wire log are as they were (`20_memory.md` R77). -/
def SameBusDriver (s t : State) : Prop :=
  t.bus = s.bus ∧ t.eng = s.eng ∧ t.blocked = s.blocked ∧ t.buslog = s.buslog

theorem SameBusDriver.refl (s : State) : SameBusDriver s s := ⟨rfl, rfl, rfl, rfl⟩

theorem SameBusDriver.trans {u : State} (h : SameBusDriver s t) (k : SameBusDriver t u) : SameBusDriver s u := by
  obtain ⟨hbus, heng, hblocked, hlog⟩ := h
  obtain ⟨kbus, keng, kblocked, klog⟩ := k
  exact ⟨kbus.trans hbus, keng.trans heng, kblocked.trans hblocked, klog.trans hlog⟩

theorem PinsOnly.sameBusDriver (h : PinsOnly s t) : SameBusDriver s t := by
  obtain ⟨hstate, -, -⟩ := h
  rw [hstate]
  exact .refl s

/-- A timer's handler operation drives pins or is held in the interrupt state. -/
theorem due_sameBusDriver {op : TimerOp} (h : due op s = .next t) : SameBusDriver s t := by
  obtain hpins | ⟨-, rfl⟩ := due_pins_or_hold h
  · exact hpins.sameBusDriver
  · exact .refl s

theorem DueRun.sameBusDriver (h : DueRun s t) : SameBusDriver s t :=
  h.keeps (P := SameBusDriver s) (fun _ _ _ _ hdue hu => hu.trans (due_sameBusDriver hdue)) (.refl s)

/-- Only source 0 has a bus event to serve. -/
theorem Served.sameBusDriver {src : Source} (hsrc : src ≠ .bus) (h : Served s src t) : SameBusDriver s t := by
  cases h with
  | bus => exact absurd rfl hsrc
  | sampler h => rw [h]; exact .refl s
  | display h => rw [h]; exact .refl s
  | timer _ hu => exact hu.sameBusDriver

/-- Source 0 alone is the bus (`30_encoding.md` R115). -/
theorem sourceOf_eq_bus {v : MotVariant} {k : BitVec 3} : sourceOf v k = some .bus ↔ k = 0#3 := by
  cases v <;> revert k <;> decide

/-- IRQ.ENABLE of a source other than 0 serves no bus event. -/
theorem execIrqEnable_sameBusDriver {k : BitVec 3} (hk : k ≠ 0#3) (h : execIrqEnable k s = .next t) :
    SameBusDriver s t := by
  obtain ⟨src, hsrc, hserved⟩ := execIrqEnable_served h
  have hbus : src ≠ .bus := fun he => hk (sourceOf_eq_bus.mp (he ▸ hsrc))
  have hsame := hserved.sameBusDriver hbus
  exact hsame

/-- An operation of another family that serves no bus event leaves BusDriver alone. -/
theorem exec_sameBusDriver {i : Instr} (hi : isBusOp i = false) (hk : i ≠ .irqEnable 0#3)
    (h : exec i s = .next t) : SameBusDriver s t := by
  obtain hb | hm | ⟨k, rfl⟩ | ⟨hp, hh⟩ | ⟨hb, hm, hp⟩ := instr_families i
  · exact absurd hb (by simp [hi])
  · rw [exec_motorCommand_frame hm h]; exact .refl s
  · exact execIrqEnable_sameBusDriver (fun hk0 => hk (by rw [hk0])) h
  · obtain ⟨_, -, hrun⟩ := exec_timerEvent_next hp hh h
    exact hrun.sameBusDriver
  · rw [exec_sensing_frame hb hm hp h]; exact .refl s

/-! The writes of the transaction buffer. -/

/-- What one operation can do to the buffer: nothing, make every byte unspecified (`20_memory.md` R74,
`40_bus_driver.md` R133), write a payload from index 0 on (R132), or store one received byte (R146, R149). -/
inductive BufWritten (m : Memory) : Memory → Prop
  | same : BufWritten m m
  | poison : BufWritten m Memory.poisoned
  | payload (p : List Byte) (hp : p.length ≤ Config.bufCap) : BufWritten m (m.writeList 0 p)
  | store (a : Nat) (v : Byte) (ha : a < Config.bufCap) : BufWritten m (m.write a v)

/-- Each of these writes stays inside the buffer, and so keeps its form. -/
theorem BufWritten.wf {m m' : Memory} (h : BufWritten m m') (hm : m.wf) : m'.wf := by
  cases h with
  | same => exact hm
  | poison => exact Memory.wf_poisoned
  | payload p hp => exact Memory.wf_writeList p hm (by omega)
  | store a v ha => exact Memory.wf_write v hm ha

theorem handleCode_buf {c : BusCode} {d : Option Byte} (h : handleCode c d s = .next t) :
    BufWritten s.bus.buf t.bus.buf := by
  cases c with
  | start | rstart => obtain rfl := Host.Outcome.next.inj h; exact .same
  | slawNack | txdNack | slarNack => obtain rfl := Host.Outcome.next.inj h; exact .poison
  | slawAck | txdAck =>
    obtain ⟨-, ⟨-, -, _, _, -, rfl, rfl⟩ | ⟨-, rfl⟩⟩ := handleSendAck_next h <;> exact .same
  | slarAck => obtain ⟨-, ⟨-, rfl⟩ | ⟨-, _, rfl, rfl⟩⟩ := handleSlarAck_next h <;> exact .same
  | rxdAck =>
    obtain ⟨v, _, -, -, ha, rfl, ⟨-, rfl⟩ | ⟨-, rfl⟩⟩ := handleRxdAck_next h <;> exact .store _ v ha
  | rxdNack => obtain ⟨v, -, -, ha, rfl⟩ := handleRxdNack_next h; exact .store _ v ha

/-- The engine part of a listed event leaves the buffer to its handler. -/
theorem busEvent_buf {c : BusCode} {d : Option Byte} (h : busEvent c d s = .next t) :
    BufWritten s.bus.buf t.bus.buf := by
  obtain ⟨-, -, _, _, _, -, _, rfl, ⟨-, h⟩ | ⟨-, rfl⟩⟩ := busEvent_next h
  · have hwritten := handleCode_buf h
    exact hwritten
  · exact .same

theorem exec_bus_buf {i : Instr} (hi : isBusOp i = true) (h : exec i s = .next t) :
    BufWritten s.bus.buf t.bus.buf := by
  cases i with
  | busInit => obtain ⟨-, -, _, -, rfl⟩ := execBusInit_eq_next.mp h; exact .same
  | busSend p =>
    obtain ⟨-, -, -, -, ⟨-, hp⟩, h⟩ := callEntry_eq_next.mp h
    obtain rfl := Host.Outcome.next.inj h
    exact .payload p hp
  | busRecv =>
    obtain ⟨-, -, -, -, -, h⟩ := callEntry_eq_next.mp h
    obtain rfl := Host.Outcome.next.inj h
    exact .poison
  | busRet => obtain ⟨-, -, -, _, rfl⟩ := execBusRet_next h; exact .same
  | evStart | evRstart | evSlawAck | evSlawNack | evTxdAck | evTxdNack | evSlarAck | evSlarNack | evRxdAck
  | evRxdNack => exact busEvent_buf h
  | evOther => rw [(execEvOther_frame h).1]; exact .same
  | evStopdone => obtain ⟨-, rfl⟩ := execEvStopdone_next h; exact .same
  | _ => cases hi

/-- A held event writes the buffer as its handler does; nothing held, or an unexpected status code, leaves it. -/
theorem servePending_buf (h : servePending s = .next t) : BufWritten s.bus.buf t.bus.buf := by
  obtain ⟨-, rfl⟩ | ⟨_, -, ⟨-, rfl⟩ | ⟨_, -, -, h⟩⟩ := servePending_next h
  · exact .same
  · exact .same
  · exact handleCode_buf h

/-- IRQ.ENABLE of source 0 runs the held bus event (`60_exceptions.md` R282). -/
theorem execIrqEnable_bus_next (h : execIrqEnable 0#3 s = .next t) :
    servePending { s with irq := s.irq.setEn .bus true } = .next t := by
  obtain ⟨-, src, hsrc, h⟩ := execIrqEnable_next h
  obtain rfl : .bus = src := Option.some.inj ((sourceOf_eq_bus.mpr rfl).symm.trans hsrc)
  exact h

/-- An operation of any family: another's than BusDriver's writes the buffer only where it serves the held bus event. -/
theorem exec_buf {i : Instr} (h : exec i s = .next t) : BufWritten s.bus.buf t.bus.buf := by
  cases hi : isBusOp i with
  | true => exact exec_bus_buf hi h
  | false =>
    by_cases hk : i = .irqEnable 0#3
    · subst hk
      have hwritten := servePending_buf (execIrqEnable_bus_next h)
      exact hwritten
    · obtain ⟨hbus, -⟩ := exec_sameBusDriver hi hk h
      rw [hbus]
      exact .same

/-! The statements. -/

/-- Settles O13: what an operation writes in the buffer is inside it. -/
theorem stepKeepsBufferCanonical : Obligations.StepKeepsBufferCanonical :=
  fun _ _ hs h => step_keeps (fun _ _ _ hs => hs) (fun _ _ _ _ hs he => (exec_buf he).wf hs) hs h

/-- Settles O20, from the families of operations. -/
theorem otherFamiliesLeaveBusDriver : Obligations.OtherFamiliesLeaveBusDriver :=
  fun _ _ _ hi hk h => exec_sameBusDriver hi hk h

end Sys2Proof.Machine

/-!
The encoding (`30_encoding.md` R91 to R98) and the reads of the bus controller's registers (R107 to R109). First what
the operation table says of a word, then what the decoder and the encoder do with it, then the statements.
-/

namespace Sys2Proof

/-! The bytes of a word, and the word of two bytes (R91). -/

theorem wordOf_byteOf (w : Word16) : wordOf (byteOf w 0) (byteOf w 1) = w :=
  (BitVec.extractLsb'_append_extractLsb'_eq_extractLsb' rfl).trans BitVec.extractLsb'_eq_self

theorem append_byteOf (v : BitVec 32) : byteOf v 3 ++ byteOf v 2 ++ byteOf v 1 ++ byteOf v 0 = v := by
  have h32 : byteOf v 3 ++ byteOf v 2 = v.extractLsb' 16 16 :=
    BitVec.extractLsb'_append_extractLsb'_eq_extractLsb' rfl
  have h321 : v.extractLsb' 16 16 ++ byteOf v 1 = v.extractLsb' 8 24 :=
    BitVec.extractLsb'_append_extractLsb'_eq_extractLsb' rfl
  rw [h32, h321]
  exact (BitVec.extractLsb'_append_extractLsb'_eq_extractLsb' rfl).trans BitVec.extractLsb'_eq_self

theorem toNat_wordOf (lo hi : Byte) : (wordOf lo hi).toNat = 256 * hi.toNat + lo.toNat := by
  rw [wordOf, BitVec.toNat_append, Nat.shiftLeft_eq, mul_comm]
  exact (Nat.two_pow_add_eq_or_of_lt lo.isLt _).symm

theorem toNat_and_immMask (w : Word16) : (w &&& 0x00FF#16).toNat = (immOf w).toNat := by
  have hmod : w.toNat &&& (2 ^ 8 - 1) = w.toNat % 2 ^ 8 := Nat.and_two_pow_sub_one_eq_mod _ 8
  simpa [immOf] using hmod

/-! The words of a row (R96): the first row a word selects. -/

theorem selectRow_eq_none_iff {w : Word16} : selectRow w = none ↔ ∀ r ∈ opTable, ¬ r.selects w = true := by
  simp [selectRow]

theorem exists_row_of_selectRow {w : Word16} {op : Op} (h : selectRow w = some op) :
    ∃ r ∈ opTable, r.op = op ∧ r.selects w = true := by
  obtain ⟨r, hfind, hop⟩ := Option.map_eq_some_iff.mp h
  exact ⟨r, List.mem_of_find?_eq_some hfind, hop, List.find?_some (p := fun r => Row.selects r w) hfind⟩

/-- The mask of the row of an operation, as `Op.pat` is its pattern. -/
def Op.mask (op : Op) : Word16 :=
  match opTable.find? (·.op == op) with
  | some r => r.mask
  | none => 0#16

theorem opTable_pat_mask : ∀ r ∈ opTable, r.op.pat = r.pat ∧ r.op.mask = r.mask := by decide

theorem and_mask_of_selectRow {w : Word16} {op : Op} (h : selectRow w = some op) : w &&& op.mask = op.pat := by
  obtain ⟨r, hr, rfl, hsel⟩ := exists_row_of_selectRow h
  obtain ⟨hpat, hmask⟩ := opTable_pat_mask r hr
  rw [hpat, hmask]
  exact beq_iff_eq.mp hsel

/-- Two rows that one word selects agree where both masks look. -/
theorem Row.pat_and_mask_of_selects {r e : Row} {w : Word16} (hr : r.selects w = true) (he : e.selects w = true) :
    r.pat &&& e.mask = e.pat &&& r.mask := by
  rw [← beq_iff_eq.mp hr, ← beq_iff_eq.mp he, BitVec.and_assoc, BitVec.and_assoc, BitVec.and_comm r.mask]

/-- The rows are disjoint, except that EV.OTHER's overlaps the listed events' before it. -/
theorem opTable_disjoint :
    opTable.Pairwise fun r e => r.pat &&& e.mask ≠ e.pat &&& r.mask ∨ e.op = .evOther := by decide

/-- Any row a word selects is the one it is decoded by, or EV.OTHER's. -/
theorem op_eq_of_selects {w : Word16} {op : Op} {e : Row} (h : selectRow w = some op) (he : e ∈ opTable)
    (hsel : e.selects w = true) : e.op = op ∨ e.op = .evOther := by
  obtain ⟨r, hfind, rfl⟩ := Option.map_eq_some_iff.mp h
  obtain ⟨hr, earlier, later, htable, hearlier⟩ := List.find?_eq_some_iff_append.mp hfind
  have hpair := opTable_disjoint
  rw [htable, List.pairwise_append, List.pairwise_cons] at hpair
  obtain ⟨-, ⟨hlater, -⟩, -⟩ := hpair
  rw [htable, List.mem_append, List.mem_cons] at he
  obtain he | rfl | he := he
  · exact absurd (hearlier e he) (by simp [hsel])
  · exact .inl rfl
  · exact .inr ((hlater e he).resolve_left (not_not.mpr (Row.pat_and_mask_of_selects hr hsel)))

/-- A mask of leading ones compares the leading bits, so the words it lets through are an interval. -/
theorem and_leadingOnes_eq_iff {k : Nat} {w pat mask : Word16} (hmask : mask = BitVec.allOnes 16 <<< k)
    (hpat : pat.toNat % 2 ^ k = 0) : w &&& mask = pat ↔ pat.toNat ≤ w.toNat ∧ w.toNat < pat.toNat + 2 ^ k := by
  have hand : (w &&& mask).toNat = w.toNat / 2 ^ k * 2 ^ k := by
    rw [hmask, ← BitVec.shiftLeft_ushiftRight, BitVec.toNat_shiftLeft, BitVec.toNat_ushiftRight,
      Nat.shiftRight_eq_div_pow, Nat.shiftLeft_eq]
    exact Nat.mod_eq_of_lt (lt_of_le_of_lt (Nat.div_mul_le_self _ _) w.isLt)
  rw [← BitVec.toNat_inj, hand]
  obtain ⟨q, hq⟩ := Nat.dvd_of_mod_eq_zero hpat
  have hk : 0 < 2 ^ k := Nat.two_pow_pos k
  rw [hq, mul_comm (2 ^ k) q, Nat.mul_left_inj hk.ne', Nat.div_eq_iff hk]
  omega

/-- The number of words that select a row. -/
def Row.size (r : Row) : Nat := 65536 - r.mask.toNat

theorem opTable_leadingOnes : ∀ r ∈ opTable, ∃ k < 9,
    r.mask = BitVec.allOnes 16 <<< k ∧ r.size = 2 ^ k ∧ r.pat.toNat % 2 ^ k = 0 := by decide

theorem Row.selects_iff {r : Row} (hr : r ∈ opTable) (w : Word16) :
    r.selects w = true ↔ r.pat.toNat ≤ w.toNat ∧ w.toNat < r.pat.toNat + r.size := by
  obtain ⟨k, -, hmask, hsize, hpat⟩ := opTable_leadingOnes r hr
  rw [Row.selects, beq_iff_eq, and_leadingOnes_eq_iff hmask hpat, hsize]

/-! What a row makes of a word and the bytes after it (R92). -/

/-- The number of extension bytes of a row's operation (R92); of BUS.SEND it is the immediate. -/
def Op.extLen (op : Op) (w : Word16) : Nat :=
  match op with
  | .busInit => 4
  | .busSend => (immOf w).toNat
  | .motSetb => 2
  | .evRxdAck | .evRxdNack | .motSetbl | .motSetbh => 1
  | .oriUpdate => 6
  | _ => 0

theorem build_cases (op : Op) (w : Word16) (ext : List Byte) :
    build op w ext = .truncated ∨ (op.extLen w ≤ ext.length ∧
      ∃ i, build op w ext = .instr i (2 + op.extLen w) (ext.drop (op.extLen w))) := by
  cases op with
  | busInit | motSetb | oriUpdate =>
    simp only [build]
    split
    · exact .inr ⟨by simp [Op.extLen], _, rfl⟩
    · exact .inl rfl
  | evRxdAck | evRxdNack | motSetbl | motSetbh =>
    simp only [build, byteOp]
    split
    · exact .inr ⟨by simp [Op.extLen], _, rfl⟩
    · exact .inl rfl
  | busSend =>
    by_cases h : (immOf w).toNat ≤ ext.length
    · exact .inr ⟨h, _, if_pos h⟩
    · exact .inl (if_neg h)
  | _ => exact .inr ⟨Nat.zero_le _, _, rfl⟩

theorem decodeWord_eq_reserved_iff {w v : Word16} {ext : List Byte} :
    decodeWord w ext = .reserved v ↔ selectRow w = none ∧ w = v := by
  unfold decodeWord
  cases selectRow w with
  | none => simp
  | some op => obtain h | ⟨-, i, h⟩ := build_cases op w ext <;> simp [h]

theorem decodeWord_eq_instr {w : Word16} {ext rest : List Byte} {i : Instr} {len : Nat}
    (h : decodeWord w ext = .instr i len rest) : ∃ op, selectRow w = some op ∧
      len = 2 + op.extLen w ∧ op.extLen w ≤ ext.length ∧ rest = ext.drop (op.extLen w) := by
  unfold decodeWord at h
  cases hrow : selectRow w with
  | none => simp [hrow] at h
  | some op =>
    rw [hrow] at h
    obtain htrunc | ⟨hle, _, hinstr⟩ := build_cases op w ext
    · cases htrunc.symm.trans h
    · obtain ⟨-, rfl, rfl⟩ := Decoded.instr.inj (hinstr.symm.trans h)
      exact ⟨op, rfl, rfl, hle, rfl⟩

/-! The word of an operation (R91, R93). -/

/-- The low bits of the word hold the operand, where the row's pattern leaves them 0 (R93). -/
theorem operand_of_word {k : Nat} (op : Op) (v : BitVec k) (hk : k ≤ 8) (hpat : op.pat.extractLsb' 0 k = 0#k) :
    (op.pat ||| (v.setWidth 8).setWidth 16).extractLsb' 0 k = v := by
  rw [BitVec.extractLsb'_or, hpat, BitVec.extractLsb'_setWidth_of_le (by omega),
    BitVec.extractLsb'_setWidth_of_le (by omega), BitVec.extractLsb'_eq_self, BitVec.zero_or]

theorem immOf_of_word (op : Op) (imm : Byte) (hpat : immOf op.pat = 0#8) :
    immOf (op.pat ||| imm.setWidth 16) = imm := by
  have h := operand_of_word op imm le_rfl hpat
  rwa [BitVec.setWidth_eq] at h

theorem motorOf_of_word (op : Op) (m : MotorId) (hpat : op.pat[0] = false) :
    motorOf (op.pat ||| m.bit.setWidth 16) = m := by
  cases m <;> simp [motorOf, MotorId.bit, hpat]

/-- The length of a well-formed payload fits in the immediate. -/
theorem toNat_immOf_busSend {p : List Byte} (hp : p.length ≤ 16) :
    (immOf (Instr.busSend p).word).toNat = p.length := by
  have himm : immOf (Instr.busSend p).word = BitVec.ofNat 8 p.length := immOf_of_word .busSend _ (by decide)
  rw [himm, BitVec.toNat_ofNat]
  omega

/-- The row of an operation assembles it again from its word and its extension bytes (R92, R93). -/
theorem build_word {c : Config} {i : Instr} (h : i.wellFormed c = true) (rest : List Byte) :
    build i.op i.word (i.ext ++ rest) = .instr i (2 + i.ext.length) rest := by
  cases i with
  | busInit hz => exact congrArg (fun v => Decoded.instr (.busInit v) 6 rest) (append_byteOf hz)
  | busSend p =>
    have hp := toNat_immOf_busSend (of_decide_eq_true h).2
    simp [build, Instr.op, Instr.ext, hp]
  | busRecv n => exact congrArg (fun v => plainOp (.busRecv v) rest) (immOf_of_word .busRecv n (by decide))
  | evOther st => exact congrArg (fun v => plainOp (.evOther v) rest) (immOf_of_word .evOther st (by decide))
  | motSete p => exact congrArg (fun v => plainOp (.motSete v) rest) (immOf_of_word .motSete p (by decide))
  | pdTick lv =>
    exact congrArg (fun v => plainOp (.pdTick v) rest) (operand_of_word .pdTick lv (by decide) (by decide))
  | pdRead ch =>
    exact congrArg (fun v => plainOp (.pdRead v) rest) (operand_of_word .pdRead ch (by decide) (by decide))
  | tmrTick t =>
    exact congrArg (fun v => plainOp (.tmrTick v) rest) (operand_of_word .tmrTick t (by decide) (by decide))
  | irqDisable src =>
    exact congrArg (fun v => plainOp (.irqDisable v) rest) (operand_of_word .irqDisable src (by decide) (by decide))
  | irqEnable src =>
    exact congrArg (fun v => plainOp (.irqEnable v) rest) (operand_of_word .irqEnable src (by decide) (by decide))
  | motOn m => exact congrArg (fun v => plainOp (.motOn v) rest) (motorOf_of_word .motOn m (by decide))
  | motOff m => exact congrArg (fun v => plainOp (.motOff v) rest) (motorOf_of_word .motOff m (by decide))
  | motSetb m p =>
    exact congrArg₂ (fun v q => Decoded.instr (.motSetb v q) 4 rest) (motorOf_of_word .motSetb m (by decide))
      (wordOf_byteOf p)
  | motSetbl m b =>
    exact congrArg (fun v => Decoded.instr (.motSetbl v b) 3 rest) (motorOf_of_word .motSetbl m (by decide))
  | motSetbh m b =>
    exact congrArg (fun v => Decoded.instr (.motSetbh v b) 3 rest) (motorOf_of_word .motSetbh m (by decide))
  | motShut f => cases f <;> rfl
  | schTake k => cases k <;> rfl
  | busRet | evStart | evRstart | evSlawAck | evSlawNack | evTxdAck | evTxdNack | evSlarAck | evSlarNack | evRxdAck
  | evRxdNack | evStopdone | pdReadshut | motRecomp | motOvf | escAssert | escDeassert | oriUpdate | oriSign
  | schDtick => rfl

/-- The word of a well-formed operation selects its row (R96): the family `Laws.SelectsRow`, over all operations. -/
theorem selectRow_word : ∀ i : Instr, Laws.SelectsRow.Statement i
  | .busInit hz => Laws.SelectsRow.busInit hz
  | .busSend p => Laws.SelectsRow.busSend p
  | .busRecv n => Laws.SelectsRow.busRecv n
  | .busRet => Laws.SelectsRow.busRet
  | .evStart => Laws.SelectsRow.evStart
  | .evRstart => Laws.SelectsRow.evRstart
  | .evSlawAck => Laws.SelectsRow.evSlawAck
  | .evSlawNack => Laws.SelectsRow.evSlawNack
  | .evTxdAck => Laws.SelectsRow.evTxdAck
  | .evTxdNack => Laws.SelectsRow.evTxdNack
  | .evSlarAck => Laws.SelectsRow.evSlarAck
  | .evSlarNack => Laws.SelectsRow.evSlarNack
  | .evRxdAck d => Laws.SelectsRow.evRxdAck d
  | .evRxdNack d => Laws.SelectsRow.evRxdNack d
  | .evOther st => Laws.SelectsRow.evOther st
  | .evStopdone => Laws.SelectsRow.evStopdone
  | .pdTick lv => Laws.SelectsRow.pdTick lv
  | .pdRead ch => Laws.SelectsRow.pdRead ch
  | .pdReadshut => Laws.SelectsRow.pdReadshut
  | .motSetb m p => Laws.SelectsRow.motSetb m p
  | .motSete p => Laws.SelectsRow.motSete p
  | .motShut f => Laws.SelectsRow.motShut f
  | .motRecomp => Laws.SelectsRow.motRecomp
  | .motOn m => Laws.SelectsRow.motOn m
  | .motOff m => Laws.SelectsRow.motOff m
  | .motOvf => Laws.SelectsRow.motOvf
  | .escAssert => Laws.SelectsRow.escAssert
  | .escDeassert => Laws.SelectsRow.escDeassert
  | .tmrTick t => Laws.SelectsRow.tmrTick t
  | .motSetbl m b => Laws.SelectsRow.motSetbl m b
  | .motSetbh m b => Laws.SelectsRow.motSetbh m b
  | .oriUpdate xl xh yl yh zl zh => Laws.SelectsRow.oriUpdate xl xh yl yh zl zh
  | .oriSign => Laws.SelectsRow.oriSign
  | .schDtick => Laws.SelectsRow.schDtick
  | .irqDisable src => Laws.SelectsRow.irqDisable src
  | .irqEnable src => Laws.SelectsRow.irqEnable src
  | .schTake k => Laws.SelectsRow.schTake k

theorem decode_encode_append (i : Instr) (rest : List Byte) :
    decode (encode i ++ rest) = decodeWord i.word (i.ext ++ rest) := by
  simp [encode, decode, wordOf_byteOf]

theorem length_encode (i : Instr) : (encode i).length = 2 + i.ext.length :=
  Nat.add_comm i.ext.length 2

/-! Operations out of their range (R98). -/

theorem sourceInRange_of_gt {c : Config} {src : BitVec 3} (h : 5 < src.toNat) : sourceInRange c src = false := by
  simp [sourceInRange, h]

theorem sourceInRange_brushed1 {c : Config} (h : c.motVariant = .b) : sourceInRange c 3#3 = false := by
  simp [sourceInRange, h]

end Sys2Proof

namespace Sys2Proof.Machine

variable {s : State}

/-! The reserved words (R97). -/

/-- The immediates of a high byte that spell an operation are those below this bound; none where it spells none. -/
def immBound (hi : Nat) : Nat :=
  match hi with
  | 0x00 | 0x03 | 0x11 | 0x22 | 0x33 | 0x36 | 0x37 | 0x38 | 0x40 | 0x41 | 0x50 => 1
  | 0x01 | 0x02 | 0x10 | 0x31 => 256
  | 0x20 => 32
  | 0x21 | 0x51 | 0x52 => 8
  | 0x30 | 0x32 | 0x34 | 0x35 | 0x3A | 0x3B | 0x53 => 2
  | 0x39 => 4
  | _ => 0

theorem isReserved_eq_true_iff {lo hi : Byte} : isReserved lo hi = true ↔ immBound hi.toNat ≤ lo.toNat := by
  unfold isReserved
  split <;> simp [immBound, *] <;> bv_omega

/-- The words of a row have one high byte, and immediates below its bound. -/
theorem opTable_within_immBound : ∀ r ∈ opTable,
    r.pat.toNat % 256 + r.size ≤ 256 ∧ r.pat.toNat % 256 + r.size ≤ immBound (r.pat.toNat / 256) := by decide

/-- One row of a high byte has all the immediates below its bound. -/
theorem exists_row_of_immBound (hi : Nat) :
    0 < immBound hi → ∃ r ∈ opTable, r.pat.toNat = 256 * hi ∧ r.size = immBound hi := by
  unfold immBound
  split
  case h_28 => simp
  all_goals decide

theorem isReserved_eq_false_iff {lo hi : Byte} :
    isReserved lo hi = false ↔ ∃ r ∈ opTable, r.selects (wordOf lo hi) = true := by
  rw [← Bool.not_eq_true, isReserved_eq_true_iff, not_le]
  constructor
  · intro hlo
    obtain ⟨r, hr, hpat, hsize⟩ := exists_row_of_immBound hi.toNat (by omega)
    refine ⟨r, hr, (Row.selects_iff hr _).mpr ?_⟩
    rw [toNat_wordOf]
    omega
  · rintro ⟨r, hr, hsel⟩
    obtain ⟨hfirst, hlast⟩ := (Row.selects_iff hr _).mp hsel
    obtain ⟨hbyte, hbound⟩ := opTable_within_immBound r hr
    rw [toNat_wordOf] at hfirst hlast
    have hhi : r.pat.toNat / 256 = hi.toNat := by omega
    rw [hhi] at hbound
    omega

theorem selectRow_eq_none_iff_isReserved {lo hi : Byte} :
    selectRow (wordOf lo hi) = none ↔ isReserved lo hi = true := by
  rw [selectRow_eq_none_iff, ← Bool.not_eq_false, isReserved_eq_false_iff]
  simp

/-! The length of an operation (R92). -/

theorem extBytes_of_selectRow {w : Word16} {op : Op} (h : selectRow w = some op) : extBytes w = op.extLen w := by
  have hrow (e : Row) (he : e ∈ opTable) (hne : e.op ≠ .evOther) (hsel : w &&& e.mask = e.pat) : e.op = op :=
    (op_eq_of_selects h he (beq_iff_eq.mpr hsel)).resolve_right hne
  have hw := and_mask_of_selectRow h
  have hones : w &&& 0xFFFF#16 = w := BitVec.and_allOnes
  unfold extBytes
  split_ifs with hinit hsend hrxd hbyte hsetb hori
  · obtain rfl := hrow ⟨.busInit, 0x0000#16, 0xFFFF#16⟩ (by decide) (by decide) (hones.trans hinit)
    rfl
  · obtain rfl := hrow ⟨.busSend, 0x0100#16, 0xFF00#16⟩ (by decide) (by decide) hsend
    exact toNat_and_immMask w
  · obtain hack | hnack := hrxd
    · obtain rfl := hrow ⟨.evRxdAck, 0x1050#16, 0xFFF8#16⟩ (by decide) (by decide) hack
      rfl
    · obtain rfl := hrow ⟨.evRxdNack, 0x1058#16, 0xFFF8#16⟩ (by decide) (by decide) hnack
      rfl
  · obtain hlow | hhigh := hbyte
    · obtain rfl := hrow ⟨.motSetbl, 0x3A00#16, 0xFFFE#16⟩ (by decide) (by decide) hlow
      rfl
    · obtain rfl := hrow ⟨.motSetbh, 0x3B00#16, 0xFFFE#16⟩ (by decide) (by decide) hhigh
      rfl
  · obtain rfl := hrow ⟨.motSetb, 0x3000#16, 0xFFFE#16⟩ (by decide) (by decide) hsetb
    rfl
  · obtain rfl := hrow ⟨.oriUpdate, 0x4000#16, 0xFFFF#16⟩ (by decide) (by decide) (hones.trans hori)
    rfl
  · cases op with
    | busInit => exact absurd (hones.symm.trans hw) hinit
    | busSend => exact absurd hw hsend
    | evRxdAck => exact absurd (.inl hw) hrxd
    | evRxdNack => exact absurd (.inr hw) hrxd
    | motSetbl => exact absurd (.inl hw) hbyte
    | motSetbh => exact absurd (.inr hw) hbyte
    | motSetb => exact absurd hw hsetb
    | oriUpdate => exact absurd (hones.symm.trans hw) hori
    | _ => rfl

/-! Two refusals of a step. -/

theorem step_of_decode_reserved {w : Word16} (hv : s.cfg.Valid) (hd : decode s.script = .reserved w) :
    step s = .refused (.reservedWord s.spos w) := by
  simp [step, configOk, fetch, hv, hd]

theorem step_of_decode_illFormed {i : Instr} {len : Nat} {rest : List Byte} (hv : s.cfg.Valid)
    (hd : decode s.script = .instr i len rest) (hw : i.wellFormed s.cfg = false) : step s = .refused .illFormed := by
  simp [step, configOk, fetch, operandsOk, hv, hd, hw]

/-! The register face (R107 to R109). -/

theorem getLsbD_readBusCtl_of_lt {k : Nat} (hk : k < 7) : s.readBusCtl.getLsbD k = s.eng.busctl.getLsbD k := by
  have hmask : ∀ k < 7, (0x7F#8).getLsbD k = true ∧ (0x80#8).getLsbD k = false := by decide
  obtain ⟨hones, hzeros⟩ := hmask k hk
  cases hp : s.busPending <;> simp [State.readBusCtl, hp, hones, hzeros]

theorem getLsbD_readBusCtl_pending : s.readBusCtl.getLsbD 7 = s.busPending := by
  cases hp : s.busPending <;> simp [State.readBusCtl, hp]

/-- R102: the three low bits of a status are not part of its code. -/
theorem getLsbD_maskStatus (st : Byte) (k : Nat) : (maskStatus st).getLsbD k = (st.getLsbD k && decide (3 ≤ k)) := by
  have hmask : ∀ k < 8, (0xF8#8).getLsbD k = decide (3 ≤ k) := by decide
  rw [maskStatus, BitVec.getLsbD_and]
  obtain hk | hk := Nat.lt_or_ge k 8
  · rw [hmask k hk]
  · simp [BitVec.getLsbD_of_ge st k hk]

theorem readBusStat_of_pending {e : BusEvent} (he : s.eng.evt = some e) : s.readBusStat = maskStatus e.status := by
  simp [State.readBusStat, he]

theorem readBusData_of_received {e : BusEvent} {d : Byte} (he : s.eng.evt = some e) (hd : e.data = some d) :
    s.readBusData = d := by
  obtain ⟨_, _⟩ := e
  obtain rfl := hd
  simp [State.readBusData, he]

/-! The statements. -/

/-- Settles O2: the word selects the operation's row, and the row assembles the operation again. -/
theorem decodeEncodeRoundTrip : Obligations.DecodeEncodeRoundTrip := by
  intro c i rest h
  rw [decode_encode_append, decodeWord, selectRow_word i c h, length_encode]
  exact build_word h rest

/-- Settles O3: the length is the row's, and R92 gives it from the word. -/
theorem operationLengthFromWord : Obligations.OperationLengthFromWord := by
  intro lo hi ext i len rest h
  obtain ⟨op, hrow, hlen⟩ := decodeWord_eq_instr h
  rw [extBytes_of_selectRow hrow]
  exact hlen

/-- Settles O4: the reserved words are those that select no row. -/
theorem reservedWordsRefused : Obligations.ReservedWordsRefused := by
  intro s lo hi rest hv hs
  have hd (w : Word16) : decode s.script = .reserved w ↔ isReserved lo hi = true ∧ wordOf lo hi = w := by
    rw [hs, ← selectRow_eq_none_iff_isReserved]
    exact decodeWord_eq_reserved_iff
  refine ⟨fun hres => step_of_decode_reserved hv ((hd _).mpr ⟨hres, rfl⟩), fun hres w hw => ?_⟩
  obtain ⟨htrue, -⟩ := (hd w).mp hw
  simp [hres] at htrue

/-- Settles O5: each of the operations named is ill-formed. -/
theorem illFormedOperationsRefused : Obligations.IllFormedOperationsRefused := by
  refine ⟨fun s i len rest hv hd hbad => step_of_decode_illFormed hv hd ?_, fun c m p b => ⟨rfl, rfl, rfl, rfl⟩⟩
  rcases hbad with ⟨p, rfl, hp⟩ | ⟨n, rfl, hn⟩ | ⟨ch, rfl, hch⟩ | rfl | ⟨src, rfl | rfl, hsrc⟩ |
    ⟨hb, ⟨m, rfl⟩ | rfl | rfl | rfl⟩ | ⟨ha, rfl⟩ | ⟨hfixed, ⟨lv, rfl⟩ | ⟨ch, rfl⟩ | rfl⟩
  · exact decide_eq_false (by omega)
  · exact decide_eq_false (by omega)
  · simp [Instr.wellFormed, hch]
  · rfl
  · exact sourceInRange_of_gt hsrc
  · exact sourceInRange_of_gt hsrc
  · simp [Instr.wellFormed, hb]
  · simp [Instr.wellFormed, hb]
  · exact sourceInRange_brushed1 hb
  · exact sourceInRange_brushed1 hb
  · simp [Instr.wellFormed, ha]
  · simp [Instr.wellFormed, hfixed]
  · simp [Instr.wellFormed, hfixed]
  · simp [Instr.wellFormed, hfixed]

/-- Settles O1, by running the decoder. -/
theorem specWordsDecode : Obligations.SpecWordsDecode :=
  ⟨rfl, rfl, rfl, rfl, rfl, rfl, rfl, rfl, rfl, rfl, rfl, rfl⟩

/-- Settles O58, register by register. -/
theorem registerReads : Obligations.RegisterReads := by
  refine fun s => ⟨fun k hk => getLsbD_readBusCtl_of_lt hk, ?_, fun hnone => ?_, fun e he => ⟨?_, ?_, ?_⟩⟩
  · rw [getLsbD_readBusCtl_pending, State.busPending, Option.isSome_iff_ne_none]
  · simp [State.readBusStat, hnone]
  · intro k hk
    simp [readBusStat_of_pending he, getLsbD_maskStatus, hk]
  · intro k hk
    simp [readBusStat_of_pending he, getLsbD_maskStatus, hk]
  · exact fun d hd => readBusData_of_received he hd

end Sys2Proof.Machine

/-!
The bus driver (`40_bus_driver.md`). First the answers of the byte engine and the contexts of the listed events
(R136 to R150), then what each case of a step does to the invariants of R154 and to `link` (R153), then the host
commands and the events one by one, and last the statements.
-/

namespace Sys2Proof.Machine

variable {s t : State}

/-! The listed events, as operations and as answers of the byte engine. -/

/-- The operation `i` raises the listed event `c`, with data byte `d` for a receive (`30_encoding.md` R101). -/
inductive Raises : Instr → BusCode → Option Byte → Prop
  | start : Raises .evStart .start none
  | rstart : Raises .evRstart .rstart none
  | slawAck : Raises .evSlawAck .slawAck none
  | slawNack : Raises .evSlawNack .slawNack none
  | txdAck : Raises .evTxdAck .txdAck none
  | txdNack : Raises .evTxdNack .txdNack none
  | slarAck : Raises .evSlarAck .slarAck none
  | slarNack : Raises .evSlarNack .slarNack none
  | rxdAck (d : Byte) : Raises (.evRxdAck d) .rxdAck (some d)
  | rxdNack (d : Byte) : Raises (.evRxdNack d) .rxdNack (some d)

theorem exists_raises {i : Instr} (hi : isListedEvent i = true) : ∃ c d, Raises i c d := by
  cases i with
  | evStart => exact ⟨_, _, .start⟩
  | evRstart => exact ⟨_, _, .rstart⟩
  | evSlawAck => exact ⟨_, _, .slawAck⟩
  | evSlawNack => exact ⟨_, _, .slawNack⟩
  | evTxdAck => exact ⟨_, _, .txdAck⟩
  | evTxdNack => exact ⟨_, _, .txdNack⟩
  | evSlarAck => exact ⟨_, _, .slarAck⟩
  | evSlarNack => exact ⟨_, _, .slarNack⟩
  | evRxdAck d => exact ⟨_, _, .rxdAck d⟩
  | evRxdNack d => exact ⟨_, _, .rxdNack d⟩
  | _ => cases hi

theorem Raises.listed {i : Instr} {c : BusCode} {d : Option Byte} (h : Raises i c d) : isListedEvent i = true := by
  cases h <;> rfl

theorem Raises.exec {i : Instr} {c : BusCode} {d : Option Byte} (h : Raises i c d) (s : State) :
    exec i s = busEvent c d s := by cases h <;> rfl

/-- The rows of R150: the event `c` with data byte `d` answers the engine's request with this symbol, phase and
ownership. -/
inductive Answers (e : Engine) : BusCode → Option Byte → WireSym → EngPhase → Bool → Prop
  | start {d : Option Byte} (hreq : e.req = .start) (hown : e.owned = false) : Answers e .start d .s .afterStart true
  | rstart {d : Option Byte} (hreq : e.req = .start) : Answers e .rstart d .sr .afterStart true
  | slawAck {d : Option Byte} {b : Byte} (hreq : e.req = .tx b) (hph : e.phase = .afterStart)
      (hrw : b.getLsbD 0 = false) : Answers e .slawAck d (.byte b false) .mt e.owned
  | slawNack {d : Option Byte} {b : Byte} (hreq : e.req = .tx b) (hph : e.phase = .afterStart)
      (hrw : b.getLsbD 0 = false) : Answers e .slawNack d (.byte b true) .mt e.owned
  | txdAck {d : Option Byte} {b : Byte} (hreq : e.req = .tx b) (hph : e.phase = .mt) :
      Answers e .txdAck d (.byte b false) .mt e.owned
  | txdNack {d : Option Byte} {b : Byte} (hreq : e.req = .tx b) (hph : e.phase = .mt) :
      Answers e .txdNack d (.byte b true) .mt e.owned
  | slarAck {d : Option Byte} {b : Byte} (hreq : e.req = .tx b) (hph : e.phase = .afterStart)
      (hrw : b.getLsbD 0 = true) : Answers e .slarAck d (.byte b false) .mr e.owned
  | slarNack {d : Option Byte} {b : Byte} (hreq : e.req = .tx b) (hph : e.phase = .afterStart)
      (hrw : b.getLsbD 0 = true) : Answers e .slarNack d (.byte b true) .mr e.owned
  | rxdAck {v : Byte} (hreq : e.req = .rx true) (hph : e.phase = .mr) :
      Answers e .rxdAck (some v) (.byte v false) .mr e.owned
  | rxdNack {v : Byte} (hreq : e.req = .rx false) (hph : e.phase = .mr) :
      Answers e .rxdNack (some v) (.byte v true) .mr e.owned

theorem engineAnswer_eq_some {c : BusCode} {d : Option Byte} {e : Engine} {sym : WireSym} {ph : EngPhase}
    {own : Bool} : engineAnswer c d e = some (sym, ph, own) ↔ Answers e c d sym ph own := by
  constructor
  · intro h
    unfold engineAnswer at h
    split at h
    case h_1 hreq =>
      split at h
      · cases h
      · next hown => cases h; exact .start hreq (by simpa using hown)
    case h_2 hreq => cases h; exact .rstart hreq
    case h_3 hreq hph =>
      split at h
      · cases h
      · next hrw => cases h; exact .slawAck hreq hph (by simpa using hrw)
    case h_4 hreq hph =>
      split at h
      · cases h
      · next hrw => cases h; exact .slawNack hreq hph (by simpa using hrw)
    case h_5 hreq hph => cases h; exact .txdAck hreq hph
    case h_6 hreq hph => cases h; exact .txdNack hreq hph
    case h_7 hreq hph =>
      split at h
      · next hrw => cases h; exact .slarAck hreq hph hrw
      · cases h
    case h_8 hreq hph =>
      split at h
      · next hrw => cases h; exact .slarNack hreq hph hrw
      · cases h
    case h_9 hreq hph => cases d <;> cases h; exact .rxdAck hreq hph
    case h_10 hreq hph => cases d <;> cases h; exact .rxdNack hreq hph
    case h_11 => cases h
  · intro h
    cases h <;> simp [engineAnswer, -BitVec.getLsbD_eq_getElem, *]

/-- The block's context of a listed event (R136 to R149). -/
theorem busContext_iff {c : BusCode} {b : Bus} :
    busContext c b = true ↔ b.busy = true ∧
      match c with
      | .start | .rstart => b.link = .idle ∧ b.outcome = .pending
      | .slawAck | .slawNack => b.dir = .send ∧ b.link = .addressPhase
      | .txdAck | .txdNack => b.dir = .send ∧ b.link = .transmitPhase
      | .slarAck | .slarNack => b.dir = .receive ∧ b.link = .addressPhase
      | .rxdAck => b.dir = .receive ∧ b.link = .receivePhaseMulti
      | .rxdNack => b.dir = .receive ∧ b.link = .receivePhaseLast := by
  cases c <;> simp [busContext]

/-- The context a rule gives its event is the block's part of it, no event pending, and a request that the event
answers. -/
theorem eventContext_iff {i : Instr} {c : BusCode} {d : Option Byte} (hi : Raises i c d) :
    EventContext i s ↔
      busContext c s.bus = true ∧ s.eng.evt = none ∧ ∃ sym ph own, Answers s.eng c d sym ph own := by
  constructor
  · rintro ⟨hevt, hbusy, hctx⟩
    rw [busContext_iff]
    cases hi with
    | start =>
      obtain ⟨hreq, hown, hblock⟩ := hctx
      exact ⟨⟨hbusy, hblock⟩, hevt, _, _, _, .start hreq hown⟩
    | rstart =>
      obtain ⟨hreq, hblock⟩ := hctx
      exact ⟨⟨hbusy, hblock⟩, hevt, _, _, _, .rstart hreq⟩
    | slawAck =>
      obtain ⟨⟨hph, b, hreq, hrw⟩, hblock⟩ := hctx
      exact ⟨⟨hbusy, hblock⟩, hevt, _, _, _, .slawAck hreq hph hrw⟩
    | slawNack =>
      obtain ⟨⟨hph, b, hreq, hrw⟩, hblock⟩ := hctx
      exact ⟨⟨hbusy, hblock⟩, hevt, _, _, _, .slawNack hreq hph hrw⟩
    | txdAck =>
      obtain ⟨hph, ⟨b, hreq⟩, hblock⟩ := hctx
      exact ⟨⟨hbusy, hblock⟩, hevt, _, _, _, .txdAck hreq hph⟩
    | txdNack =>
      obtain ⟨hph, ⟨b, hreq⟩, hblock⟩ := hctx
      exact ⟨⟨hbusy, hblock⟩, hevt, _, _, _, .txdNack hreq hph⟩
    | slarAck =>
      obtain ⟨⟨hph, b, hreq, hrw⟩, hblock⟩ := hctx
      exact ⟨⟨hbusy, hblock⟩, hevt, _, _, _, .slarAck hreq hph hrw⟩
    | slarNack =>
      obtain ⟨⟨hph, b, hreq, hrw⟩, hblock⟩ := hctx
      exact ⟨⟨hbusy, hblock⟩, hevt, _, _, _, .slarNack hreq hph hrw⟩
    | rxdAck =>
      obtain ⟨hph, hreq, hblock⟩ := hctx
      exact ⟨⟨hbusy, hblock⟩, hevt, _, _, _, .rxdAck hreq hph⟩
    | rxdNack =>
      obtain ⟨hph, hreq, hblock⟩ := hctx
      exact ⟨⟨hbusy, hblock⟩, hevt, _, _, _, .rxdNack hreq hph⟩
  · rintro ⟨hctx, hevt, sym, ph, own, hans⟩
    refine ⟨hevt, busContext_busy hctx, ?_⟩
    have hblock := (busContext_iff.mp hctx).2
    cases hi with
    | start => cases hans with | start hreq hown => exact ⟨hreq, hown, hblock⟩
    | rstart => cases hans with | rstart hreq => exact ⟨hreq, hblock⟩
    | slawAck => cases hans with | slawAck hreq hph hrw => exact ⟨⟨hph, _, hreq, hrw⟩, hblock⟩
    | slawNack => cases hans with | slawNack hreq hph hrw => exact ⟨⟨hph, _, hreq, hrw⟩, hblock⟩
    | txdAck => cases hans with | txdAck hreq hph => exact ⟨hph, ⟨_, hreq⟩, hblock⟩
    | txdNack => cases hans with | txdNack hreq hph => exact ⟨hph, ⟨_, hreq⟩, hblock⟩
    | slarAck => cases hans with | slarAck hreq hph hrw => exact ⟨⟨hph, _, hreq, hrw⟩, hblock⟩
    | slarNack => cases hans with | slarNack hreq hph hrw => exact ⟨⟨hph, _, hreq, hrw⟩, hblock⟩
    | rxdAck => cases hans with | rxdAck hreq hph => exact ⟨hph, hreq, hblock⟩
    | rxdNack => cases hans with | rxdNack hreq hph => exact ⟨hph, hreq, hblock⟩

/-- What the engine answers is the engine part that the event's rule gives. -/
theorem Answers.enginePart {i : Instr} {c : BusCode} {d : Option Byte} {e : Engine} {sym : WireSym} {ph : EngPhase}
    {own : Bool} (h : Answers e c d sym ph own) (hi : Raises i c d) : EnginePart i e sym ⟨c.status, d⟩ ph own := by
  cases hi <;> cases h <;> simp_all [EnginePart, BusCode.status]

/-! What an operation does to the bus driver. -/

theorem due_cfg {op : TimerOp} (h : due op s = .next t) : t.cfg = s.cfg := by
  obtain ⟨hstate, -, -⟩ | ⟨-, rfl⟩ := due_pins_or_hold h
  · rw [hstate]
  · rfl

theorem Served.cfg {src : Source} (h : Served s src t) : t.cfg = s.cfg := by
  cases h with
  | bus h _ => rw [h]
  | sampler h => rw [h]
  | display h => rw [h]
  | timer _ hu => obtain ⟨hstate, -, -⟩ := hu; rw [hstate]

/-- No operation changes the parameters (`00_scope.md` R8). -/
theorem exec_cfg {i : Instr} (h : exec i s = .next t) : t.cfg = s.cfg := by
  obtain hb | hm | ⟨k, rfl⟩ | ⟨hp, hh⟩ | ⟨hb, hm, hp⟩ := instr_families i
  · rw [exec_bus_frame hb h]
  · rw [exec_motorCommand_frame hm h]
  · obtain ⟨src, -, hserved⟩ := execIrqEnable_served h
    exact hserved.cfg
  · obtain ⟨r, -, hrun⟩ := exec_timerEvent_next hp hh h
    exact hrun.keeps (P := fun u => u.cfg = s.cfg) (fun _ _ _ _ hd hu => (due_cfg hd).trans hu) rfl
  · rw [exec_sensing_frame hb hm hp h]

/-- The states of `link` during a transaction, with what each says of the direction, the cursor and the armed
acknowledge (`10_state.md` R25). -/
def PhaseOk (b : Bus) : Prop :=
  match b.link with
  | .idle | .addressPhase => b.cur = 0#5
  | .transmitPhase => b.dir = .send ∧ 1 ≤ b.cur.toNat
  | .receivePhaseMulti => b.dir = .receive ∧ b.ackarm = true ∧ b.cur.toNat + 2 ≤ b.len.toNat
  | .receivePhaseLast => b.dir = .receive ∧ b.ackarm = false ∧ b.cur.toNat + 1 = b.len.toNat
  | .stopPending => False

/-- The bus invariant while a transaction is in flight. -/
structure InFlight (s : State) : Prop where
  len_le : s.bus.len.toNat ≤ 16
  len_pos : 1 ≤ s.bus.len.toNat
  curSet : s.bus.curSet = true
  cur_le : s.bus.cur.toNat ≤ s.bus.len.toNat
  pending : s.bus.outcome = .pending
  blocked : s.blocked ≠ .none
  phase : PhaseOk s.bus

/-- The bus invariant while none is. -/
structure AtRest (s : State) : Prop where
  len_le : s.bus.len.toNat ≤ 16
  cur_le : s.bus.curSet = true → s.bus.cur.toNat ≤ s.bus.len.toNat
  finished : s.blocked ≠ .none → s.bus.outcome ≠ .pending
  link : s.bus.link = .idle ∨ (s.bus.link = .stopPending ∧ s.blocked ≠ .none)

theorem BusInv.inFlight (hs : BusInv s) (hb : s.bus.busy = true) : InFlight s := by
  obtain ⟨hlen, hcur, hbusy, -, -, hstop, hidle, haddr, htx, hmulti, hlast⟩ := hs
  obtain ⟨hpend, hblk, hset, hpos⟩ := hbusy hb
  refine ⟨hlen, hpos, hset, hcur hset, hpend, hblk, ?_⟩
  unfold PhaseOk
  split
  · next hl => exact hidle hb hl
  · next hl => exact (haddr hl).2
  · next hl => exact (htx hl).2
  · next hl => exact (hmulti hl).2
  · next hl => exact (hlast hl).2
  · next hl => simp [hstop hl] at hb

theorem InFlight.busInv (hb : s.bus.busy = true) (hs : InFlight s) : BusInv s := by
  obtain ⟨hlen, hpos, hset, hcur, hpend, hblk, hphase⟩ := hs
  unfold PhaseOk at hphase
  cases hl : s.bus.link <;> simp_all [BusInv]

theorem BusInv.atRest (hs : BusInv s) (hb : s.bus.busy = false) : AtRest s := by
  obtain ⟨hlen, hcur, -, hdone, hfree, -, -, -, -, -, -⟩ := hs
  refine ⟨hlen, hcur, fun hblk => (hdone hb hblk).1, ?_⟩
  by_cases hblk : s.blocked = .none
  · exact .inl (hfree hblk)
  · exact (hdone hb hblk).2.symm.imp_right fun hl => ⟨hl, hblk⟩

theorem AtRest.busInv (hb : s.bus.busy = false) (hs : AtRest s) : BusInv s := by
  obtain ⟨hlen, hcur, hfin, hl | ⟨hl, hblk⟩⟩ := hs <;> simp_all [BusInv]

/-- A host that is not blocked waits for no transaction. -/
theorem BusInv.busy_of_free (hs : BusInv s) (hfree : s.blocked = .none) : s.bus.busy = false := by
  rw [← Bool.not_eq_true]
  intro hb
  exact (hs.inFlight hb).blocked hfree

/-- No transaction is in flight while the stop is on its way. -/
theorem BusInv.rest_of_stopPending (hs : BusInv s) (hlink : s.bus.link = .stopPending) : s.bus.busy = false := by
  rw [← Bool.not_eq_true]
  intro hb
  have hphase := (hs.inFlight hb).phase
  simp [PhaseOk, hlink] at hphase

/-- What an operation can do to the bus driver, from a state that meets its invariant: the cases of the statements
about every step. -/
inductive BusStep (s : State) : Instr → State → Prop
  | quiet {i : Instr} {t : State} (hsame : SameBusDriver s t) (hcfg : t.cfg = s.cfg) : BusStep s i t
  /-- BUS.INIT (R130) -/
  | init {hz : BitVec 32} {t : State} (hfree : s.blocked = .none) (hrest : s.bus.busy = false)
      (hinit : execBusInit hz s = .next t) : BusStep s (.busInit hz) t
  /-- BUS.SEND (R132) -/
  | send {p : List Byte} (hrest : s.bus.busy = false) (hlink : s.bus.link = .idle)
      (hn : 1 ≤ p.length ∧ p.length ≤ Config.bufCap) :
      BusStep s (.busSend p) (beginTransfer .send (s.bus.buf.writeList 0 p) p.length .inSend s)
  /-- BUS.RECV (R133) -/
  | recv {n : Byte} (hrest : s.bus.busy = false) (hlink : s.bus.link = .idle)
      (hn : 1 ≤ n.toNat ∧ n.toNat ≤ Config.bufCap) :
      BusStep s (.busRecv n) (beginTransfer .receive Memory.poisoned n.toNat .inRecv s)
  /-- BUS.RET (R135) -/
  | ret (hrest : s.bus.busy = false) (hlink : s.bus.link = .idle) (r : HostResult) :
      BusStep s .busRet ({ s with blocked := .none }.giveResult r)
  /-- A listed event of the disabled source (R127) -/
  | held {i : Instr} {c : BusCode} {d : Option Byte} {sym : WireSym} {ph : EngPhase} {own : Bool}
      (hi : Raises i c d) (hctx : busContext c s.bus = true) : BusStep s i (engineDone c d sym ph own s)
  /-- A listed event of the enabled source (R136 to R149) -/
  | handled {i : Instr} {c : BusCode} {d : Option Byte} {sym : WireSym} {ph : EngPhase} {own : Bool} {t : State}
      (hi : Raises i c d) (hctx : busContext c s.bus = true) (hevt : s.eng.evt = none)
      (hans : Answers s.eng c d sym ph own) (hrun : handleCode c d (engineDone c d sym ph own s) = .next t) :
      BusStep s i t
  /-- EV.OTHER of the enabled source (R151) -/
  | rearmed {i : Instr} (hen : s.irq.enBus = true) : BusStep s i (act .rearm s)
  /-- EV.OTHER of the disabled source (log 10) -/
  | otherHeld {i : Instr} {e : BusEvent} (hcode : busCodeOf e.status = none) (hevt : s.eng.evt = none) :
      BusStep s i { s with eng := { s.eng with req := .none, evt := some e, standby := s.eng.req } }
  /-- IRQ.ENABLE 0 with an unexpected status code held (log 10) -/
  | resumed {i : Instr} {e : BusEvent} {q : Irq} (hevt : s.eng.evt = some e) (hcode : busCodeOf e.status = none) :
      BusStep s i (act .rearm (resumeRequest { s with irq := q }))
  /-- EV.STOPDONE (R147) -/
  | stopped (hreq : s.eng.req = .stop) (hlink : s.bus.link = .stopPending) :
      BusStep s .evStopdone { s with
        buslog := s.buslog ++ [.p]
        eng := { s.eng with owned := false, phase := .afterStart, req := .none }
        bus := { s.bus with link := .idle } }

theorem busStep_of_busEvent {i : Instr} {c : BusCode} {d : Option Byte} (hi : Raises i c d)
    (h : busEvent c d s = .next t) : BusStep s i t := by
  obtain ⟨hctx, hevt, sym, ph, own, hans, _, rfl, ⟨-, hrun⟩ | ⟨-, rfl⟩⟩ := busEvent_next h
  · exact .handled hi hctx hevt (engineAnswer_eq_some.mp hans) hrun
  · exact .held hi hctx

theorem busStep_of_evOther {st : Byte} (h : execEvOther st s = .next t) : BusStep s (.evOther st) t := by
  obtain ⟨hcode, _, rfl, ⟨hen, rfl⟩ | ⟨-, hevt, rfl⟩⟩ := execEvOther_next h
  · exact .rearmed hen
  · exact .otherHeld (by simpa using hcode) hevt

/-- IRQ.ENABLE 0 runs the handler of no listed event: the host would be blocked. -/
theorem busStep_of_irqEnable (hs : BusInv s) (h : execIrqEnable 0#3 s = .next t) :
    BusStep s (.irqEnable 0#3) t := by
  have hrest := hs.busy_of_free (execIrqEnable_next h).1
  obtain ⟨-, rfl⟩ | ⟨e, hevt, ⟨hcode, rfl⟩ | ⟨c, -, hctx, -⟩⟩ := servePending_next (execIrqEnable_bus_next h)
  · exact .quiet (.refl s) rfl
  · exact .resumed hevt hcode
  · have hbusy : s.bus.busy = true := busContext_busy hctx
    simp [hrest] at hbusy

theorem exec_busStep {i : Instr} (hs : BusInv s) (h : exec i s = .next t) : BusStep s i t := by
  by_cases hlisted : isListedEvent i = true
  · obtain ⟨c, d, hi⟩ := exists_raises hlisted
    exact busStep_of_busEvent hi (hi.exec s ▸ h)
  by_cases hquiet : isBusOp i = false ∧ i ≠ .irqEnable 0#3
  · exact .quiet (exec_sameBusDriver hquiet.1 hquiet.2 h) (exec_cfg h)
  cases i with
  | busInit hz => exact .init (execBusInit_eq_next.mp h).1 (execBusInit_eq_next.mp h).2.1 h
  | busSend p =>
    obtain ⟨-, hrest, hlink, -, hn, h⟩ := callEntry_eq_next.mp h
    exact Host.Outcome.next.inj h ▸ .send hrest hlink hn
  | busRecv n =>
    obtain ⟨-, hrest, hlink, -, hn, h⟩ := callEntry_eq_next.mp h
    exact Host.Outcome.next.inj h ▸ .recv hrest hlink hn
  | busRet =>
    obtain ⟨hrest, hlink, -, r, rfl⟩ := execBusRet_next h
    exact .ret hrest hlink r
  | evOther st => exact busStep_of_evOther h
  | evStopdone =>
    obtain ⟨⟨hreq, hlink⟩, rfl⟩ := execEvStopdone_next h
    exact .stopped hreq hlink
  | irqEnable k =>
    have hk : k = 0#3 := by simpa [isBusOp] using hquiet
    subst hk
    exact busStep_of_irqEnable hs h
  | _ => simp [isListedEvent, isBusOp] at hlisted hquiet

/-! The bus invariant. -/

/-- The cursor of a transfer is far from its width's end. -/
theorem toNat_cur_succ {v : BitVec 5} (h : v.toNat < 31) : (v + 1#5).toNat = v.toNat + 1 := by
  rw [BitVec.toNat_add]
  exact Nat.mod_eq_of_lt (by simp; omega)

/-- The transfer counts of a call fit in `len`. -/
theorem toNat_len {n : Nat} (h : n ≤ Config.bufCap) : (BitVec.ofNat 5 n).toNat = n := by
  have hcap : Config.bufCap = 16 := rfl
  rw [BitVec.toNat_ofNat]
  exact Nat.mod_eq_of_lt (by omega)

/-- The stop of a finished transaction, successful or aborted, is on its way (R137, R141). -/
theorem busInv_complete (hs : InFlight s) : BusInv (complete s) :=
  AtRest.busInv rfl
    { len_le := hs.len_le, cur_le := fun _ => hs.cur_le, finished := fun _ => by simp
      link := .inr ⟨rfl, hs.blocked⟩ }

theorem busInv_abort (hs : InFlight s) : BusInv (abort s) :=
  AtRest.busInv rfl
    { len_le := hs.len_le, cur_le := fun hset => by simp at hset, finished := fun _ => by simp
      link := .inr ⟨rfl, hs.blocked⟩ }

/-- Every handler of a listed event keeps the bus invariant. -/
theorem handleCode_busInv {c : BusCode} {d : Option Byte} (hctx : busContext c s.bus = true) (hs : BusInv s)
    (h : handleCode c d s = .next t) : BusInv t := by
  obtain ⟨hbusy, hblock⟩ := busContext_iff.mp hctx
  have hf := hs.inFlight hbusy
  have hlen := hf.len_le
  have hphase := hf.phase
  cases c with
  | start | rstart =>
    obtain rfl := Host.Outcome.next.inj h
    have hcur : s.bus.cur = 0#5 := by simpa [PhaseOk, hblock.1] using hphase
    exact InFlight.busInv hbusy { hf with phase := hcur }
  | slawNack | txdNack | slarNack =>
    obtain rfl := Host.Outcome.next.inj h
    exact busInv_abort (s := consumeEvent s) { hf with }
  | slawAck | txdAck =>
    obtain ⟨-, ⟨hlt, -, v, _, -, rfl, rfl⟩ | ⟨-, rfl⟩⟩ := handleSendAck_next h
    · have hsucc : (s.bus.cur + 1#5).toNat = s.bus.cur.toNat + 1 := toNat_cur_succ (by omega)
      refine InFlight.busInv hbusy { hf with cur_le := ?_, phase := ⟨hblock.1, ?_⟩ }
      · exact hsucc.trans_le hlt
      · exact hsucc.ge.trans' (by omega)
    · exact busInv_complete (s := consumeEvent s) { hf with }
  | slarAck =>
    have hcur : s.bus.cur = 0#5 := by simpa [PhaseOk, hblock.2] using hphase
    have hpos := hf.len_pos
    obtain ⟨-, ⟨hone, rfl⟩ | ⟨hmany, _, rfl, rfl⟩⟩ := handleSlarAck_next h
    · exact InFlight.busInv hbusy { hf with phase := ⟨hblock.1, rfl, hone.symm⟩ }
    · refine InFlight.busInv hbusy { hf with phase := ⟨hblock.1, rfl, ?_⟩ }
      simp [hcur] at hmany ⊢
      omega
  | rxdAck =>
    obtain ⟨hdir, hack, hcur⟩ :
        s.bus.dir = .receive ∧ s.bus.ackarm = true ∧ s.bus.cur.toNat + 2 ≤ s.bus.len.toNat := by
      simpa [PhaseOk, hblock.2] using hphase
    have hsucc : (s.bus.cur + 1#5).toNat = s.bus.cur.toNat + 1 := toNat_cur_succ (by omega)
    have hle : (s.bus.cur + 1#5).toNat ≤ s.bus.len.toNat := by omega
    obtain ⟨v, _, -, -, -, rfl, ⟨hone, rfl⟩ | ⟨hmany, rfl⟩⟩ := handleRxdAck_next h
    · exact InFlight.busInv hbusy { hf with cur_le := hle, phase := ⟨hdir, rfl, hone.symm⟩ }
    · refine InFlight.busInv hbusy { hf with cur_le := hle, phase := ?_ }
      · simp [PhaseOk, hblock.2, hdir, hack, hsucc] at hmany ⊢
        omega
  | rxdNack =>
    obtain ⟨-, -, hcur⟩ : _ ∧ _ ∧ s.bus.cur.toNat + 1 = s.bus.len.toNat := by
      simpa only [PhaseOk, hblock.2] using hphase
    have hsucc : (s.bus.cur + 1#5).toNat = s.bus.cur.toNat + 1 := toNat_cur_succ (by omega)
    obtain ⟨v, -, -, -, rfl⟩ := handleRxdNack_next h
    exact AtRest.busInv rfl
      { len_le := hf.len_le, cur_le := fun _ => hsucc.trans_le hcur.le, finished := fun _ => by simp
        link := .inr ⟨rfl, hf.blocked⟩ }

/-- The entry of a call of 1 to 16 bytes puts a transaction in flight. -/
theorem busInv_beginTransfer {d : Dir} {m : Memory} {n : Nat} {b : Blocked} (hb : b ≠ .none)
    (hlink : s.bus.link = .idle) (hn : 1 ≤ n ∧ n ≤ Config.bufCap) : BusInv (beginTransfer d m n b s) := by
  have hlen := toNat_len hn.2
  refine InFlight.busInv rfl
    { len_le := hlen.trans_le hn.2, len_pos := hlen.ge.trans' hn.1, curSet := rfl, cur_le := Nat.zero_le _
      pending := rfl, blocked := hb, phase := ?_ }
  simp [PhaseOk, hlink]

theorem BusStep.busInv {i : Instr} (h : BusStep s i t) (hs : BusInv s) : BusInv t := by
  cases h with
  | quiet hsame =>
    obtain ⟨hbus, -, hblocked, -⟩ := hsame
    exact (busInv_congr hbus hblocked).mpr hs
  | init hfree _ hinit =>
    obtain ⟨-, -, _, -, rfl⟩ := execBusInit_eq_next.mp hinit
    exact AtRest.busInv rfl
      { len_le := Nat.zero_le _, cur_le := fun _ => Nat.zero_le _, finished := fun hblk => absurd hfree hblk
        link := .inl rfl }
  | send _ hlink hn => exact busInv_beginTransfer (by simp) hlink hn
  | recv _ hlink hn => exact busInv_beginTransfer (by simp) hlink hn
  | ret hrest hlink =>
    obtain ⟨hlen, hcur, -, -⟩ := hs.atRest hrest
    exact AtRest.busInv hrest
      { len_le := hlen, cur_le := hcur, finished := fun hblk => absurd rfl hblk, link := .inl hlink }
  | held | rearmed | otherHeld | resumed => exact hs
  | handled _ hctx _ _ hrun => exact handleCode_busInv (s := engineDone _ _ _ _ _ s) hctx hs hrun
  | stopped _ hlink =>
    have hrest := hs.rest_of_stopPending hlink
    obtain ⟨hlen, hcur, hfin, -⟩ := hs.atRest hrest
    exact AtRest.busInv hrest { len_le := hlen, cur_le := hcur, finished := hfin, link := .inl rfl }

/-! The readable bytes. -/

/-- A byte written just past specified bytes. -/
theorem read?_write_ne_none {m : Memory} {n : Nat} (h : ∀ a, a < n → m.read? a ≠ none) (v : Byte) :
    ∀ a, a < n + 1 → (m.write n v).read? a ≠ none := by
  intro a ha
  by_cases he : a = n
  · simp [he]
  · rw [Memory.read?_write_other _ _ he]
    exact h a (by omega)

/-- Every handler of a listed event keeps the readable bytes specified. -/
theorem handleCode_bufInv {c : BusCode} {d : Option Byte} (hctx : busContext c s.bus = true) (hs : BusInv s)
    (hbuf : BufInv s) (h : handleCode c d s = .next t) : BufInv t := by
  obtain ⟨hbusy, hblock⟩ := busContext_iff.mp hctx
  have hf := hs.inFlight hbusy
  have hlen := hf.len_le
  have hphase := hf.phase
  obtain ⟨hpayload, hreceived, -, hsend, hrecv⟩ := hbuf
  cases c with
  | start | rstart =>
    obtain rfl := Host.Outcome.next.inj h
    exact ⟨hpayload, hreceived, fun hrest => absurd hrest (by simp [hbusy]), hsend, hrecv⟩
  | slawNack | txdNack | slarNack =>
    obtain rfl := Host.Outcome.next.inj h
    simpa [BufInv] using ⟨hsend, hrecv⟩
  | slawAck | txdAck =>
    have hdir : s.bus.dir = .send := hblock.1
    obtain ⟨-, ⟨-, -, v, _, -, rfl, rfl⟩ | ⟨-, rfl⟩⟩ := handleSendAck_next h
    · refine ⟨hpayload, fun _ hr => ?_, fun hrest => absurd hrest (by simp [hbusy]), hsend, hrecv⟩
      exact absurd (hdir.symm.trans hr) (by simp)
    · refine ⟨fun hb => by simp at hb, fun hb => by simp at hb, fun _ hin => ?_, hsend, hrecv⟩
      exact absurd (hdir.symm.trans (hrecv hin)) (by simp)
  | slarAck =>
    obtain ⟨-, ⟨-, rfl⟩ | ⟨-, _, rfl, rfl⟩⟩ := handleSlarAck_next h <;>
      exact ⟨hpayload, hreceived, fun hrest => absurd hrest (by simp [hbusy]), hsend, hrecv⟩
  | rxdAck =>
    have hdir : s.bus.dir = .receive := hblock.1
    obtain ⟨-, -, hcur⟩ : _ ∧ _ ∧ s.bus.cur.toNat + 2 ≤ s.bus.len.toNat := by
      simpa only [PhaseOk, hblock.2] using hphase
    have hsucc : (s.bus.cur + 1#5).toNat = s.bus.cur.toNat + 1 := toNat_cur_succ (by omega)
    have below (v : Byte) (a : Nat) (ha : a < (s.bus.cur + 1#5).toNat) :=
      read?_write_ne_none (hreceived hbusy hdir) v a (hsucc ▸ ha)
    obtain ⟨v, _, -, -, -, rfl, ⟨-, rfl⟩ | ⟨-, rfl⟩⟩ := handleRxdAck_next h <;>
      exact ⟨fun _ hw => absurd (hdir.symm.trans hw) (by simp), fun _ _ => below v,
        fun hrest => absurd hrest (by simp [hbusy]), hsend, hrecv⟩
  | rxdNack =>
    have hdir : s.bus.dir = .receive := hblock.1
    obtain ⟨-, -, hcur⟩ : _ ∧ _ ∧ s.bus.cur.toNat + 1 = s.bus.len.toNat := by
      simpa only [PhaseOk, hblock.2] using hphase
    obtain ⟨v, -, -, -, rfl⟩ := handleRxdNack_next h
    have all (a : Nat) (ha : a < s.bus.len.toNat) := read?_write_ne_none (hreceived hbusy hdir) v a (hcur ▸ ha)
    exact ⟨fun hb => by simp at hb, fun hb => by simp at hb, fun _ _ _ => all, hsend, hrecv⟩

theorem BusStep.bufInv {i : Instr} (h : BusStep s i t) (hs : BusInv s) (hbuf : BufInv s) : BufInv t := by
  cases h with
  | quiet hsame =>
    obtain ⟨hbus, -, hblocked, -⟩ := hsame
    exact (bufInv_congr hbus hblocked).mpr hbuf
  | init hfree _ hinit =>
    obtain ⟨-, -, _, -, rfl⟩ := execBusInit_eq_next.mp hinit
    simp [BufInv, hfree]
  | @send p _ _ hn =>
    have hlen := toNat_len hn.2
    refine ⟨fun _ _ a ha => ?_, fun _ hr => by simp at hr, fun hb => by simp at hb, fun _ => rfl,
      fun hb => by simp at hb⟩
    have hin := Memory.read?_writeList_inside p s.bus.buf 0 a (hlen ▸ ha)
    rw [Nat.zero_add] at hin
    simp [hin]
  | recv =>
    exact ⟨fun _ hw => by simp at hw, fun _ _ a ha => by simp at ha, fun hb => by simp at hb, fun hb => by simp at hb,
      fun _ => rfl⟩
  | ret hrest => simp [BufInv, hrest]
  | held | rearmed | otherHeld | resumed => exact hbuf
  | handled _ hctx _ _ hrun => exact handleCode_bufInv (s := engineDone _ _ _ _ _ s) hctx hs hbuf hrun
  | stopped => exact hbuf

/-! The byte engine. -/

/-- The phase of the engine after an event (R150). -/
def BusCode.phase : BusCode → EngPhase
  | .start | .rstart => .afterStart
  | .slawAck | .slawNack | .txdAck | .txdNack => .mt
  | .slarAck | .slarNack | .rxdAck | .rxdNack => .mr

/-- An engine that was ready in the event's context owns the bus after it, in the event's phase. -/
theorem Answers.owned_phase {c : BusCode} {d : Option Byte} {sym : WireSym} {ph : EngPhase} {own : Bool}
    (hans : Answers s.eng c d sym ph own) (hctx : busContext c s.bus = true) (hready : EngReady s s.eng.req) :
    own = true ∧ ph = c.phase := by
  obtain ⟨hbusy, hblock⟩ := busContext_iff.mp hctx
  unfold EngReady at hready
  cases hans with
  | start | rstart => exact ⟨rfl, rfl⟩
  | slawAck | slawNack | txdAck | txdNack | slarAck | slarNack | rxdAck | rxdNack =>
    simp only [hblock.2] at hready
    exact ⟨hready.2.2, rfl⟩

/-- Every handler of a listed event leaves the engine ready: with the request, the phase and the ownership of the link
state it sets. -/
theorem handleCode_engReady {c : BusCode} {d : Option Byte} (hctx : busContext c s.bus = true)
    (hown : s.eng.owned = true) (hph : s.eng.phase = c.phase) (h : handleCode c d s = .next t) :
    EngReady t t.eng.req := by
  obtain ⟨-, hblock⟩ := busContext_iff.mp hctx
  cases c with
  | start | rstart => obtain rfl := Host.Outcome.next.inj h; exact ⟨rfl, hph, hown⟩
  | slawNack | txdNack | slarNack => obtain rfl := Host.Outcome.next.inj h; exact ⟨rfl, hown⟩
  | slawAck | txdAck =>
    obtain ⟨-, ⟨-, -, v, _, -, rfl, rfl⟩ | ⟨-, rfl⟩⟩ := handleSendAck_next h
    · exact ⟨⟨v, rfl⟩, hph, hown⟩
    · exact ⟨rfl, hown⟩
  | slarAck => obtain ⟨-, ⟨-, rfl⟩ | ⟨-, _, rfl, rfl⟩⟩ := handleSlarAck_next h <;> exact ⟨rfl, hph, hown⟩
  | rxdAck =>
    obtain ⟨v, _, -, -, -, rfl, ⟨-, rfl⟩ | ⟨-, rfl⟩⟩ := handleRxdAck_next h
    · exact ⟨rfl, hph, hown⟩
    · simp only [EngReady, act_bus, hblock.2]
      exact ⟨rfl, hph, hown⟩
  | rxdNack => obtain ⟨v, -, -, -, rfl⟩ := handleRxdNack_next h; exact ⟨rfl, hown⟩

/-- Between transactions the engine has given the bus back. -/
theorem EngInv.owned_of_rest (he : EngInv s) (hrest : s.bus.busy = false) (hlink : s.bus.link = .idle) :
    s.eng.owned = false := by
  obtain ⟨-, hlisted, hready, hother⟩ := he
  have of_ready {r : EngReq} (hr : EngReady s r) : s.eng.owned = false := by
    simp only [EngReady, hlink] at hr
    exact hr.1
  cases hevt : s.eng.evt with
  | none => exact of_ready (hready hevt)
  | some e =>
    refine of_ready (hother e hevt ?_)
    by_contra hcode
    simp [hlisted e hevt hcode] at hrest

/-- No event is pending while the engine has a request (R154 (i)). -/
theorem EngInv.evt_of_req (he : EngInv s) (hreq : s.eng.req ≠ .none) : s.eng.evt = none :=
  Option.eq_none_iff_forall_ne_some.mpr fun e hevt => hreq (he.1 e hevt)

/-- No event of the enabled source is pending (`60_exceptions.md` R278). -/
theorem PendInv.evt_of_enabled (hp : PendInv s) (hen : s.irq.enBus = true) : s.eng.evt = none := by
  obtain ⟨-, -, -, -, -, hbus⟩ := hp
  exact hbus hen

theorem BusStep.engInv {i : Instr} (h : BusStep s i t) (hs : BusInv s) (hp : PendInv s) (he : EngInv s) :
    EngInv t := by
  cases h with
  | quiet hsame hcfg =>
    obtain ⟨hbus, heng, -, -⟩ := hsame
    exact (engInv_congr hbus heng hcfg).mpr he
  | init _ _ hinit =>
    obtain ⟨-, -, _, -, rfl⟩ := execBusInit_eq_next.mp hinit
    exact (engInv_of_none rfl).mpr ⟨rfl, fun hb => by simp at hb⟩
  | send hrest hlink | recv hrest hlink =>
    refine (engInv_of_none rfl).mpr ?_
    simp only [EngReady, beginTransfer_link, hlink]
    exact ⟨he.owned_of_rest hrest hlink, fun _ => rfl⟩
  | ret => exact he
  | held _ hctx =>
    exact ⟨fun _ _ => rfl, fun _ _ _ => busContext_busy hctx, by simp [engineDone], by simp [engineDone]⟩
  | handled _ hctx hevt hans hrun =>
    obtain ⟨rfl, rfl⟩ := hans.owned_phase hctx ((engInv_of_none hevt).mp he)
    refine (engInv_of_none (handleCode_frame hrun).2).mpr ?_
    exact handleCode_engReady (s := engineDone _ _ _ _ _ s) hctx rfl rfl hrun
  | rearmed hen => exact (engInv_of_none rfl).mpr ((engInv_of_none (hp.evt_of_enabled hen)).mp he)
  | otherHeld hcode hevt =>
    have hready := (engInv_of_none hevt).mp he
    refine ⟨fun _ _ => rfl, ?_, by simp, fun _ _ _ => hready⟩
    rintro _ ⟨⟩ hlisted
    exact absurd hcode hlisted
  | resumed hevt hcode =>
    obtain ⟨-, -, -, hstandby⟩ := he
    exact (engInv_of_none rfl).mpr (hstandby _ hevt hcode)
  | stopped hreq hlink =>
    have hnone : s.eng.evt = none := he.evt_of_req (by simp [hreq])
    have hrest := hs.rest_of_stopPending hlink
    refine (engInv_of_none ?_).mpr ⟨rfl, fun hb => absurd hb (by simp [hrest])⟩
    exact hnone

/-! The transitions of `link`. -/

/-- A handler leaves `link` as it is or moves it along a row of its event (R153). -/
theorem handleCode_linkMove {i : Instr} {c : BusCode} {d : Option Byte} (hi : Raises i c d)
    (hctx : busContext c s.bus = true) (hs : BusInv s) (h : handleCode c d s = .next t) :
    t.bus.link = s.bus.link ∨ LinkMove i s.bus.link t.bus.link := by
  obtain ⟨hbusy, hblock⟩ := busContext_iff.mp hctx
  have hf := hs.inFlight hbusy
  have hpos := hf.len_pos
  cases hi with
  | start | rstart => obtain rfl := Host.Outcome.next.inj h; exact .inr ⟨hblock.1, rfl⟩
  | slawNack | txdNack | slarNack => obtain rfl := Host.Outcome.next.inj h; exact .inr ⟨hblock.2, rfl⟩
  | slawAck =>
    obtain ⟨-, ⟨-, -, v, _, -, rfl, rfl⟩ | ⟨hle, rfl⟩⟩ := handleSendAck_next h
    · exact .inr ⟨hblock.2, rfl⟩
    · have hcur : s.bus.cur = 0#5 := by simpa [PhaseOk, hblock.2] using hf.phase
      simp only [hcur, BitVec.toNat_ofNat] at hle
      omega
  | txdAck =>
    obtain ⟨-, ⟨-, -, v, _, -, rfl, rfl⟩ | ⟨-, rfl⟩⟩ := handleSendAck_next h
    · exact .inl hblock.2.symm
    · exact .inr ⟨hblock.2, rfl⟩
  | slarAck =>
    obtain ⟨-, ⟨-, rfl⟩ | ⟨-, _, rfl, rfl⟩⟩ := handleSlarAck_next h
    · exact .inr ⟨hblock.2, .inl rfl⟩
    · exact .inr ⟨hblock.2, .inr rfl⟩
  | rxdAck =>
    obtain ⟨v, _, -, -, -, rfl, ⟨-, rfl⟩ | ⟨-, rfl⟩⟩ := handleRxdAck_next h
    · exact .inr ⟨hblock.2, rfl⟩
    · exact .inl rfl
  | rxdNack => obtain ⟨v, -, -, -, rfl⟩ := handleRxdNack_next h; exact .inr ⟨hblock.2, rfl⟩

/-! Host commands. -/

/-- A byte appended below a number is its low byte (`30_encoding.md` R91). -/
theorem toNat_append_byte {n : Nat} (v : BitVec n) (b : Byte) : (v ++ b).toNat = 256 * v.toNat + b.toNat := by
  rw [BitVec.toNat_append, Nat.shiftLeft_eq, mul_comm]
  exact (Nat.two_pow_add_eq_or_of_lt b.isLt _).symm

/-- The operand of BUS.INIT, low byte first (R130). -/
theorem append_eq_ofNat (e0 e1 e2 e3 : Byte) :
    (e3 ++ e2 ++ e1 ++ e0 : BitVec 32) =
      BitVec.ofNat 32 (e0.toNat + 256 * e1.toNat + 65536 * e2.toNat + 16777216 * e3.toNat) := by
  have h0 := e0.isLt
  have h1 := e1.isLt
  have h2 := e2.isLt
  have h3 := e3.isLt
  apply BitVec.eq_of_toNat_eq
  rw [toNat_append_byte, toNat_append_byte, toNat_append_byte, BitVec.toNat_ofNat]
  omega

/-- The bus clock of a divisor is no faster than the target (`40_bus_driver.md` R130, R160). -/
theorem clock_reaches_target {cpu hz d : Nat} (hq : 16 ≤ cpu / hz) (hd : d = (cpu / hz - 16) / 2) :
    hz * sclPeriod (BitVec.ofNat 8 d) ≤ cpu := by
  have hperiod : sclPeriod (BitVec.ofNat 8 d) ≤ cpu / hz := by
    rw [sclPeriod, BitVec.toNat_ofNat]
    omega
  exact (Nat.mul_le_mul_left hz hperiod).trans (Nat.mul_div_le cpu hz)

/-- Outside a transaction BUS.INIT is refused for a target it has no divisor for. -/
theorem execBusInit_refused {hz : BitVec 32} {r : Refusal} (hfree : s.blocked = .none) (hrest : s.bus.busy = false)
    (hdiv : busDivisor s.cfg.cpuHz hz.toNat = .error r) : exec (.busInit hz) s = .refused r := by
  simp [exec, execBusInit, hfree, hrest, hdiv]

/-- A call whose precondition fails is refused (R131). -/
theorem callEntry_refused {n : Nat} {k : Out}
    (hbad : s.blocked ≠ .none ∨ s.bus.busy = true ∨ s.bus.link ≠ .idle ∨ s.bus.busdivSet = false ∨ n = 0 ∨ 16 < n) :
    ∃ r, callEntry n s k = .refused r := by
  have hcap : Config.bufCap = 16 := rfl
  unfold callEntry
  split
  · exact ⟨_, rfl⟩
  · next hfree =>
    split
    · exact ⟨_, rfl⟩
    · next hrest =>
      split
      · exact ⟨_, rfl⟩
      · next hlink =>
        split
        · exact ⟨_, rfl⟩
        · next hset =>
          have hn : ¬ (1 ≤ n ∧ n ≤ Config.bufCap) := by
            rcases hbad with h | h | h | h | h | h
            · exact absurd h hfree
            · exact absurd h hrest
            · exact absurd h hlink
            · exact absurd h hset
            · omega
            · omega
          exact ⟨_, if_neg hn⟩

/-- BUS.RET after a send returns whether the outcome is Acked (R135). -/
theorem execBusRet_inSend (hblocked : s.blocked = .inSend) (hrest : s.bus.busy = false) (hlink : s.bus.link = .idle) :
    execBusRet s = .next { s with
      blocked := .none, results := s.results ++ [.sent (decide (s.bus.outcome = .acked))] } := by
  simp [execBusRet, hrest, hlink, hblocked, State.giveResult]

/-- BUS.RET after a successful receive returns the bytes of the buffer (R135). -/
theorem execBusRet_received {bs : List Byte} (hblocked : s.blocked = .inRecv) (hrest : s.bus.busy = false)
    (hlink : s.bus.link = .idle) (hacked : s.bus.outcome = .acked) (hlen : bs.length = s.bus.len.toNat)
    (hcap : bs.length ≤ 16) (hbytes : ∀ (a : Nat) (h : a < bs.length), s.bus.buf.read? a = some bs[a]) :
    execBusRet s = .next { s with blocked := .none, results := s.results ++ [.received (some bs)] } := by
  have hread : bufReadList s.bus.buf 0 s.bus.len.toNat = .ok bs := by
    rw [← hlen]
    exact bufReadList_of_some bs 0 (by rw [Nat.zero_add]; exact hcap) (by simpa using hbytes)
  simp [execBusRet, hrest, hlink, hblocked, hacked, hread, State.giveResult]

/-- BUS.RET after an aborted receive returns no bytes (R135). -/
theorem execBusRet_aborted (hblocked : s.blocked = .inRecv) (hrest : s.bus.busy = false)
    (hlink : s.bus.link = .idle) (houtcome : s.bus.outcome ≠ .acked) :
    execBusRet s = .next { s with blocked := .none, results := s.results ++ [.received none] } := by
  simp [execBusRet, hrest, hlink, hblocked, houtcome, State.giveResult]

/-! The listed events. -/

/-- A listed event in its context, its source enabled. -/
theorem exec_event {i : Instr} {c : BusCode} {d : Option Byte} {sym : WireSym} {ph : EngPhase} {own : Bool}
    (hi : Raises i c d) (hctx : busContext c s.bus = true) (hevt : s.eng.evt = none)
    (hans : Answers s.eng c d sym ph own) (hen : s.irq.enBus = true) :
    exec i s = handleCode c d (engineDone c d sym ph own s) :=
  (hi.exec s).trans (busEvent_enabled hctx hevt (engineAnswer_eq_some.mpr hans) hen)

/-- Bit 0 of an address byte is the direction (`30_encoding.md` R104). -/
theorem addrByte_getLsbD_zero (c : Config) (d : Dir) : (addrByte c d).getLsbD 0 = d.bit := by
  rw [addrByte, BitVec.getLsbD_append]
  cases d <;> rfl

/-- The address byte as a number (`30_encoding.md` R104). -/
theorem addrByte_eq (c : Config) (d : Dir) :
    addrByte c d = BitVec.ofNat 8 (2 * c.devAddr.toNat + if d = .receive then 1 else 0) := by
  have hdev := c.devAddr.isLt
  apply BitVec.eq_of_toNat_eq
  rw [addrByte, BitVec.toNat_append, Nat.shiftLeft_eq, mul_comm,
    ← Nat.two_pow_add_eq_or_of_lt (BitVec.ofBool d.bit).isLt, BitVec.toNat_ofNat]
  cases d <;> simp [Dir.bit] <;> omega

/-- The cursor's increment as a number. -/
theorem cur_succ_eq (v : BitVec 5) : v + 1#5 = BitVec.ofNat 5 (v.toNat + 1) := by
  rw [BitVec.ofNat_add, BitVec.ofNat_toNat, BitVec.setWidth_eq]

/-- A received byte with one more to come is stored, and the receiver is armed for the final byte (R146). -/
theorem handleRxdAck_one {v : Byte} (hset : s.bus.curSet = true) (hcap : s.bus.cur.toNat < Config.bufCap)
    (hl : s.bus.len.toNat = (s.bus.cur + 1#5).toNat + 1) :
    handleRxdAck (some v) s = .next (armLast { consumeEvent s with bus := { s.bus with
      buf := s.bus.buf.write s.bus.cur.toNat v, cur := s.bus.cur + 1#5 } }) :=
  (storeByte_some (s := consumeEvent s) hset hcap).trans (if_pos hl)

/-- A received byte with several more to come is stored, and the receiver is armed again (R146). -/
theorem handleRxdAck_many {v : Byte} (hset : s.bus.curSet = true) (hcap : s.bus.cur.toNat < Config.bufCap)
    (hl : s.bus.len.toNat ≠ (s.bus.cur + 1#5).toNat + 1) :
    handleRxdAck (some v) s = .next (act (.rxArm true) { consumeEvent s with bus := { s.bus with
      buf := s.bus.buf.write s.bus.cur.toNat v, cur := s.bus.cur + 1#5 } }) :=
  (storeByte_some (s := consumeEvent s) hset hcap).trans (if_neg hl)

/-- The final byte is stored and the transaction completes (R149). -/
theorem handleRxdNack_stored {v : Byte} (hset : s.bus.curSet = true) (hcap : s.bus.cur.toNat < Config.bufCap) :
    handleRxdNack (some v) s = .next (complete { consumeEvent s with bus := { s.bus with
      buf := s.bus.buf.write s.bus.cur.toNat v, cur := s.bus.cur + 1#5 } }) :=
  storeByte_some (s := consumeEvent s) hset hcap

/-- The codes of R101 are those of the listed events. -/
theorem busCodeOf_eq_none_iff {st : Byte} : busCodeOf st = none ↔ st &&& 0xF8#8 ∉ listedStatus := by
  simp only [busCodeOf, List.find?_eq_none, BusCode.all, listedStatus, maskStatus, BusCode.status,
    beq_iff_eq, List.mem_cons, not_or, eq_comm (b := st &&& 0xF8#8), List.not_mem_nil]
  simp

/-- An unexpected status code is delivered unless one event is held already. -/
theorem execEvOther_delivered {st : Byte} (hcode : busCodeOf st = none)
    (hroom : s.irq.enBus = true ∨ s.eng.evt = none) :
    execEvOther st s =
      deliver .bus handleOther holdOther { s with eng := { s.eng with evt := some ⟨maskStatus st, none⟩ } } := by
  have hheld : ¬ (s.irq.en .bus = false ∧ s.eng.evt ≠ none) := by
    rintro ⟨hen, hevt⟩
    rcases hroom with h | h
    · simp [Irq.en, h] at hen
    · exact hevt h
  simp only [execEvOther, hcode, if_neg hheld]

/-- A listed event out of its context is refused (R152). -/
theorem busEvent_refused {c : BusCode} {d : Option Byte}
    (hbad : ¬ (busContext c s.bus = true ∧ s.eng.evt = none ∧ ∃ sym ph own, Answers s.eng c d sym ph own)) :
    busEvent c d s = .refused .outOfContract := by
  unfold busEvent
  split
  · next hc =>
    split
    · rfl
    · next sym ph own hans =>
      obtain ⟨hctx, hevt⟩ : busContext c s.bus = true ∧ s.eng.evt = none := by simpa using hc
      exact absurd ⟨hctx, hevt, sym, ph, own, engineAnswer_eq_some.mp hans⟩ hbad
  · rfl

/-- A listed event that the engine answers in the block's context has a step where its handler has one. -/
theorem listed_step {i : Instr} {c : BusCode} {d : Option Byte} {sym : WireSym} {ph : EngPhase} {own : Bool}
    (hi : Raises i c d) (hctx : busContext c s.bus = true) (hevt : s.eng.evt = none)
    (hans : Answers s.eng c d sym ph own) (hen : s.irq.enBus = true)
    (hrun : handleCode c d (engineDone c d sym ph own s) = .next t) :
    ∃ i t, isListedEvent i = true ∧ exec i s = .next t :=
  ⟨i, t, hi.listed, (exec_event hi hctx hevt hans hen).trans hrun⟩

/-- The peripheral can withhold the acknowledge of the address byte in either direction (R142, R145). -/
theorem address_step (hbusy : s.bus.busy = true) (hlink : s.bus.link = .addressPhase) (hevt : s.eng.evt = none)
    (hreq : s.eng.req = .tx (addrByte s.cfg s.bus.dir)) (hph : s.eng.phase = .afterStart) (hen : s.irq.enBus = true) :
    ∃ i t, isListedEvent i = true ∧ exec i s = .next t := by
  have hrw := addrByte_getLsbD_zero s.cfg s.bus.dir
  cases hdir : s.bus.dir with
  | send =>
    have hctx : busContext .slawNack s.bus = true := busContext_iff.mpr ⟨hbusy, hdir, hlink⟩
    exact listed_step .slawNack hctx hevt (.slawNack hreq hph (hrw.trans (by rw [hdir]; rfl))) hen rfl
  | receive =>
    have hctx : busContext .slarNack s.bus = true := busContext_iff.mpr ⟨hbusy, hdir, hlink⟩
    exact listed_step .slarNack hctx hevt (.slarNack hreq hph (hrw.trans (by rw [hdir]; rfl))) hen rfl

/-! The statements. -/

/-- Settles O10: every case of a step keeps the invariant. -/
theorem stepKeepsBusInvariant : Obligations.StepKeepsBusInvariant :=
  fun _ _ hs h => step_keeps (fun _ _ _ hs => hs) (fun _ _ _ _ hs he => (exec_busStep hs he).busInv hs) hs h

/-- Settles O12: every case of a step keeps the readable bytes, given the bus invariant before it. -/
theorem stepKeepsReadableBytes : Obligations.StepKeepsReadableBytes := by
  intro s t hs hbuf h
  refine (step_keeps (P := fun s => BusInv s ∧ BufInv s) (fun _ _ _ hs => hs) ?_ ⟨hs, hbuf⟩ h).2
  intro i s t _ ⟨hs, hbuf⟩ he
  have hstep := exec_busStep hs he
  exact ⟨hstep.busInv hs, hstep.bufInv hs hbuf⟩

/-- Settles O11: every case of a step keeps the engine in the condition its link state calls for. -/
theorem stepKeepsEngineInvariant : Obligations.StepKeepsEngineInvariant := by
  intro s t hs hp he h
  refine (step_keeps (P := fun s => BusInv s ∧ PendInv s ∧ EngInv s) (fun _ _ _ hs => hs) ?_ ⟨hs, hp, he⟩ h).2.2
  intro i s t _ ⟨hs, hp, he⟩ hexec
  have hstep := exec_busStep hs hexec
  exact ⟨hstep.busInv hs, exec_pendInv hp hexec, hstep.engInv hs hp he⟩

/-- Settles O18: the rows of the cases of a step. -/
theorem linkTransitions : Obligations.LinkTransitions := by
  intro i s t hs h
  cases exec_busStep hs h with
  | quiet hsame => exact .inl (by rw [hsame.1])
  | init _ _ hinit =>
    obtain ⟨-, -, _, -, rfl⟩ := execBusInit_eq_next.mp hinit
    exact .inr rfl
  | send | recv | ret | held | rearmed | otherHeld | resumed => exact .inl rfl
  | handled hi hctx _ _ hrun =>
    have hmove := handleCode_linkMove (s := engineDone _ _ _ _ _ s) hi hctx hs hrun
    exact hmove
  | stopped _ hlink => exact .inr ⟨hlink, rfl⟩

/-- Settles O26, from the cases of the divisor. -/
theorem busInitLoadsDivisor : Obligations.BusInitLoadsDivisor := by
  refine ⟨fun e0 e1 e2 e3 rest => ?_, ?_, fun s hz => ⟨fun hbad => if_pos hbad, fun hfree hrest => ⟨?_, ?_, ?_⟩⟩⟩
  · have hdecode : decode (0x00#8 :: 0x00#8 :: e0 :: e1 :: e2 :: e3 :: rest) =
        .instr (.busInit (e3 ++ e2 ++ e1 ++ e0)) 6 rest := rfl
    rw [hdecode, append_eq_ofNat]
  · rintro s hz _ d rfl hd hfree hrest hz0 hq hmax
    have hdiv : busDivisor s.cfg.cpuHz hz.toNat = .ok (BitVec.ofNat 8 d) :=
      busDivisor_eq_ok.mpr ⟨hz0, hq, hd ▸ hmax, by rw [hd]⟩
    exact ⟨execBusInit_eq_next.mpr ⟨hfree, hrest, _, hdiv, rfl⟩, clock_reaches_target hq hd⟩
  · exact fun h0 => execBusInit_refused hfree hrest (if_pos h0)
  · exact fun h0 hfast => execBusInit_refused hfree hrest ((if_neg h0).trans (if_pos hfast))
  · intro h0 hslow
    have hnotFast : ¬ s.cfg.cpuHz / hz.toNat < 16 := by omega
    exact execBusInit_refused hfree hrest ((if_neg h0).trans ((if_neg hnotFast).trans (if_pos hslow)))

/-- Settles O27: the call entry's answer, and the reads after a run of writes. -/
theorem busSendEntry : Obligations.BusSendEntry := by
  intro s p hfree hrest hlink hdiv hpos hlen
  refine ⟨_, callEntry_eq_next.mpr ⟨hfree, hrest, hlink, hdiv, ⟨hpos, hlen⟩, rfl⟩, rfl, fun a ha => ?_,
    fun a ha => ?_⟩
  · have hin := Memory.read?_writeList_inside p s.bus.buf 0 a ha
    rwa [Nat.zero_add] at hin
  · exact Memory.read?_writeList_other p s.bus.buf (.inr (by omega))

/-- Settles O28: the call entry's answer; a poisoned buffer has no byte. -/
theorem busRecvEntry : Obligations.BusRecvEntry := by
  intro s n hfree hrest hlink hdiv hpos hlen
  exact ⟨_, callEntry_eq_next.mpr ⟨hfree, hrest, hlink, hdiv, ⟨hpos, hlen⟩, rfl⟩, rfl, fun _ => rfl⟩

/-- Settles O29: both operations go through the one call entry. -/
theorem callPreconditions : Obligations.CallPreconditions := by
  rintro s i n (⟨p, rfl, rfl⟩ | ⟨k, rfl, rfl⟩) hbad
  · exact callEntry_refused hbad
  · exact callEntry_refused hbad

/-- Settles O30: the result is the outcome's, or the bytes of the buffer. -/
theorem busRetReturns : Obligations.BusRetReturns := by
  refine ⟨fun _ => rfl, fun s hblocked hrest hlink => ⟨fun hacked => ?_, fun hacked => ?_⟩,
    fun s bs hblocked hrest hlink => ⟨?_, ?_⟩, fun s hbad => ?_⟩
  · rw [← decide_eq_true hacked]
    exact execBusRet_inSend hblocked hrest hlink
  · rw [← decide_eq_false hacked]
    exact execBusRet_inSend hblocked hrest hlink
  · exact execBusRet_received hblocked hrest hlink
  · exact execBusRet_aborted hblocked hrest hlink
  · change execBusRet s = _
    unfold execBusRet
    split
    · rfl
    · next hidle =>
      have hfree : s.blocked = .none := hbad.resolve_right hidle
      simp [hfree]

/-- Settles O31: the two events run the one handler. -/
theorem startHandsAddress : Obligations.StartHandsAddress := by
  rintro s a ha hbusy hlink hpending hevt hreq hen
  obtain rfl : addrByte s.cfg s.bus.dir = a := (addrByte_eq _ _).trans ha.symm
  refine ⟨fun hown => ?_, ?_⟩
  · exact exec_event .start (busContext_iff.mpr ⟨hbusy, hlink, hpending⟩) hevt (.start hreq hown) hen
  · exact exec_event .rstart (busContext_iff.mpr ⟨hbusy, hlink, hpending⟩) hevt (.rstart hreq) hen

/-- Settles O32: both events leave the same state to the one handler. -/
theorem acknowledgedSendGoesOn : Obligations.AcknowledgedSendGoesOn := by
  intro s i b hbusy hdir hevt hreq hen hset hi
  have hexec : ∃ c, exec i s = handleSendAck (engineDone c none (.byte b false) .mt s.eng.owned s) := by
    rcases hi with ⟨rfl, hlink, hph, hrw⟩ | ⟨rfl, hlink, hph⟩
    · exact ⟨_, exec_event .slawAck (busContext_iff.mpr ⟨hbusy, hdir, hlink⟩) hevt (.slawAck hreq hph hrw) hen⟩
    · exact ⟨_, exec_event .txdAck (busContext_iff.mpr ⟨hbusy, hdir, hlink⟩) hevt (.txdAck hreq hph) hen⟩
  obtain ⟨c, hexec⟩ := hexec
  refine ⟨fun v hlt hcap hv => ?_, fun hle => ?_⟩
  · rw [← cur_succ_eq]
    exact hexec.trans (handleSendAck_more (s := engineDone _ _ _ _ _ s) hset hlt (bufRead_of_some hcap hv))
  · exact hexec.trans (handleSendAck_last (s := engineDone _ _ _ _ _ s) hset hle)

/-- Settles O33: the three events leave the same state to the one handler. -/
theorem notAcknowledgeAborts : Obligations.NotAcknowledgeAborts := by
  intro s i b ph hbusy hevt hreq hen hi
  have hexec : ∃ c, exec i s = .next (abort (consumeEvent (engineDone c none (.byte b true) ph s.eng.owned s))) := by
    rcases hi with ⟨rfl, hdir, hlink, hph, hrw, rfl⟩ | ⟨rfl, hdir, hlink, hph, rfl⟩ |
      ⟨rfl, hdir, hlink, hph, hrw, rfl⟩
    · exact ⟨_, exec_event .slawNack (busContext_iff.mpr ⟨hbusy, hdir, hlink⟩) hevt (.slawNack hreq hph hrw) hen⟩
    · exact ⟨_, exec_event .txdNack (busContext_iff.mpr ⟨hbusy, hdir, hlink⟩) hevt (.txdNack hreq hph) hen⟩
    · exact ⟨_, exec_event .slarNack (busContext_iff.mpr ⟨hbusy, hdir, hlink⟩) hevt (.slarNack hreq hph hrw) hen⟩
  obtain ⟨c, hexec⟩ := hexec
  exact ⟨_, hexec, fun _ => rfl, rfl⟩

/-- Settles O34: the handler's two branches. -/
theorem acknowledgedReadArms : Obligations.AcknowledgedReadArms := by
  intro s b hbusy hdir hlink hevt hreq hrw hph hen hset
  have hexec := exec_event .slarAck (busContext_iff.mpr ⟨hbusy, hdir, hlink⟩) hevt (.slarAck hreq hph hrw) hen
  refine ⟨fun hone => ?_, fun hmany => ?_⟩
  · exact hexec.trans (handleSlarAck_one hset (show s.bus.len.toNat = s.bus.cur.toNat + 1 by omega))
  · exact hexec.trans (handleSlarAck_many hset (show s.bus.len.toNat ≠ s.bus.cur.toNat + 1 by omega))

/-- Settles O35: the handler's two branches, and the reads after the one write. -/
theorem receivedByteStored : Obligations.ReceivedByteStored := by
  intro s d hbusy hdir hlink hevt hreq hph hen hset hcap
  have hexec := exec_event (.rxdAck d) (busContext_iff.mpr ⟨hbusy, hdir, hlink⟩) hevt (.rxdAck hreq hph) hen
  have hsucc : (s.bus.cur + 1#5).toNat = s.bus.cur.toNat + 1 := toNat_cur_succ (by omega)
  have hread : (s.bus.buf.write s.bus.cur.toNat d).read? s.bus.cur.toNat = some d := Memory.read?_write_same _ _ _
  have hother (a : Nat) (ha : a ≠ s.bus.cur.toNat) := Memory.read?_write_other s.bus.buf d ha
  by_cases hlast : s.bus.len.toNat = s.bus.cur.toNat + 2
  · have hone : s.bus.len.toNat = (s.bus.cur + 1#5).toNat + 1 := by omega
    refine ⟨_, hexec.trans (handleRxdAck_one (s := engineDone _ _ _ _ _ s) hset hcap hone), hread, hother,
      fun _ => ?_, fun h => absurd hlast h⟩
    rw [← cur_succ_eq]
    rfl
  · have hmany : s.bus.len.toNat ≠ (s.bus.cur + 1#5).toNat + 1 := by omega
    refine ⟨_, hexec.trans (handleRxdAck_many (s := engineDone _ _ _ _ _ s) hset hcap hmany), hread, hother,
      fun h => absurd h hlast, fun _ => ?_⟩
    rw [← cur_succ_eq]
    rfl

/-- Settles O36: the store, and then the success step. -/
theorem finalByteCompletes : Obligations.FinalByteCompletes := by
  intro s d hbusy hdir hlink hevt hreq hph hen hset hcap
  have hexec := exec_event (.rxdNack d) (busContext_iff.mpr ⟨hbusy, hdir, hlink⟩) hevt (.rxdNack hreq hph) hen
  refine ⟨_, hexec.trans (handleRxdNack_stored (s := engineDone _ _ _ _ _ s) hset hcap),
    Memory.read?_write_same _ _ _, fun a ha => Memory.read?_write_other s.bus.buf d ha, ?_⟩
  rw [← cur_succ_eq]
  rfl

/-- Settles O37: the event is delivered, to the handler or to the hold. -/
theorem unexpectedStatusRearms : Obligations.UnexpectedStatusRearms := by
  intro s st hst
  have hcode := busCodeOf_eq_none_iff.mpr hst
  refine ⟨fun hen => ?_, fun hen hevt => ?_⟩
  · exact (execEvOther_delivered hcode (.inl hen)).trans (deliver_enabled hen)
  · exact (execEvOther_delivered hcode (.inr hevt)).trans (deliver_disabled hen)

/-- Settles O38: its context is one condition. -/
theorem stopDoneIdles : Obligations.StopDoneIdles := by
  refine ⟨fun _ => rfl, fun s hreq hlink => if_pos ⟨hreq, hlink⟩, fun s hbad => if_neg ?_⟩
  rintro ⟨hreq, hlink⟩
  exact hbad.elim (fun h => h hreq) fun h => h hlink

/-- Settles O40: the operation raises its event, and its context is the one its rule gives. -/
theorem outOfContractEventsRefused : Obligations.OutOfContractEventsRefused := by
  intro i s hlisted hbad
  obtain ⟨c, d, hi⟩ := exists_raises hlisted
  rw [hi.exec]
  exact busEvent_refused fun hctx => hbad ((eventContext_iff hi).mpr hctx)

/-- Settles O39: the engine part alone happens. -/
theorem disabledBusHoldsEvent : Obligations.DisabledBusHoldsEvent := by
  refine ⟨fun s t i hlisted hen h => ?_, fun s i hlisted hen hctx => ?_, fun s hen hctx => ?_⟩
  · obtain ⟨c, d, hi⟩ := exists_raises hlisted
    rw [hi.exec] at h
    obtain ⟨-, -, sym, ph, own, hans, _, rfl, ⟨hen', -⟩ | ⟨-, rfl⟩⟩ := busEvent_next h
    · simp [hen] at hen'
    · exact ⟨sym, _, ph, own, (engineAnswer_eq_some.mp hans).enginePart hi, rfl⟩
  · obtain ⟨c, d, hi⟩ := exists_raises hlisted
    obtain ⟨hblock, hevt, sym, ph, own, hans⟩ := (eventContext_iff hi).mp hctx
    exact ⟨_, (hi.exec s).trans (busEvent_disabled hblock hevt (engineAnswer_eq_some.mpr hans) hen)⟩
  · obtain ⟨hevt, hbusy, hreq, hown, hlink, hpending⟩ := hctx
    have hblock : busContext .start s.bus = true := busContext_iff.mpr ⟨hbusy, hlink, hpending⟩
    exact busEvent_disabled hblock hevt (engineAnswer_eq_some.mpr (.start hreq hown)) hen

/-- Settles O24: the event the link state calls for, with the address or the byte not acknowledged where the engine
transmits. -/
theorem waitingBusHasAStep : Obligations.WaitingBusHasAStep := by
  intro s hs he _ hp hbusy hen
  have hevt := hp.evt_of_enabled hen
  have hready := (engInv_of_none hevt).mp he
  have hf := hs.inFlight hbusy
  have hlen := hf.len_le
  have hphase := hf.phase
  unfold EngReady at hready
  unfold PhaseOk at hphase
  cases hlink : s.bus.link <;> simp only [hlink] at hready hphase
  case idle =>
    obtain ⟨hown, hreq⟩ := hready
    have hctx : busContext .start s.bus = true := busContext_iff.mpr ⟨hbusy, hlink, hf.pending⟩
    exact listed_step .start hctx hevt (.start (hreq hbusy) hown) hen rfl
  case addressPhase =>
    obtain ⟨hreq, hph, -⟩ := hready
    exact address_step hbusy hlink hevt hreq hph hen
  case transmitPhase =>
    obtain ⟨⟨b, hreq⟩, hph, -⟩ := hready
    have hctx : busContext .txdNack s.bus = true := busContext_iff.mpr ⟨hbusy, hphase.1, hlink⟩
    exact listed_step .txdNack hctx hevt (.txdNack hreq hph) hen rfl
  case receivePhaseMulti =>
    obtain ⟨hreq, hph, -⟩ := hready
    obtain ⟨t, ht, -⟩ := receivedByteStored s 0#8 hbusy hphase.1 hlink hevt hreq hph hen hf.curSet (by omega)
    exact ⟨_, t, rfl, ht⟩
  case receivePhaseLast =>
    obtain ⟨hreq, hph, -⟩ := hready
    obtain ⟨t, ht, -⟩ := finalByteCompletes s 0#8 hbusy hphase.1 hlink hevt hreq hph hen hf.curSet (by omega)
    exact ⟨_, t, rfl, ht⟩

end Sys2Proof.Machine

/-!
Whole transactions of the bus driver (`40_bus_driver.md` R155 to R158), as runs of the operations that SEND and RECV
expand to, and the line level (R162, R163).
-/

namespace Sys2Proof.Machine

variable {s t u : State}

/-! Runs of operations. -/

theorem runOps_cons_next {i : Instr} {is : List Instr} (h : exec i s = .next t) (hrest : runOps is t = .next u) :
    runOps (i :: is) s = .next u := andThen_eq_next.mpr ⟨t, h, hrest⟩

theorem runOps_append_next {is js : List Instr} (h : runOps is s = .next t) (hrest : runOps js t = .next u) :
    runOps (is ++ js) s = .next u := by
  rw [runOps_append]
  exact andThen_eq_next.mpr ⟨t, h, hrest⟩

/-- A part of a transaction: nothing is returned yet, the host stays blocked, and these symbols are on the wires. -/
structure Logged (s t : State) (syms : List WireSym) : Prop where
  results : t.results = s.results
  blocked : t.blocked = s.blocked
  buslog : t.buslog = s.buslog ++ syms

theorem Logged.trans {a b : List WireSym} (h : Logged s t a) (k : Logged t u b) : Logged s u (a ++ b) :=
  ⟨k.results.trans h.results, k.blocked.trans h.blocked, by rw [k.buslog, h.buslog, List.append_assoc]⟩

/-! The entry of a call, up to the address byte. -/

/-- The host can begin a call: it is free, the driver is initialised and idle, and its source is enabled. -/
structure CallReady (s : State) : Prop where
  free : s.blocked = .none
  rest : s.bus.busy = false
  link : s.bus.link = .idle
  divisor : s.bus.busdivSet = true
  owned : s.eng.owned = false
  enabled : s.irq.enBus = true

/-- The state with the address byte handed over (R132, R133, R136). -/
def addressed (d : Dir) (m : Memory) (n : Nat) (b : Blocked) (s : State) : State :=
  setLink .addressPhase (act (.tx (addrByte s.cfg d)) (consumeEvent
    (engineDone .start none .s .afterStart true (beginTransfer d m n b s))))

theorem logged_addressed (d : Dir) (m : Memory) (n : Nat) (b : Blocked) (s : State) :
    Logged { s with blocked := b } (addressed d m n b s) [.s] := ⟨rfl, rfl, rfl⟩

theorem CallReady.exec_evStart (h : CallReady s) (d : Dir) (m : Memory) (n : Nat) (b : Blocked) :
    exec .evStart (beginTransfer d m n b s) = .next (addressed d m n b s) := by
  have hctx : busContext .start (beginTransfer d m n b s).bus = true := busContext_iff.mpr ⟨rfl, h.link, rfl⟩
  exact exec_event .start hctx rfl (.start rfl h.owned) h.enabled

theorem CallReady.runOps_send (h : CallReady s) {p : List Byte} (hpos : 1 ≤ p.length) (hcap : p.length ≤ 16) :
    runOps [.busSend p, .evStart] s =
      .next (addressed .send (s.bus.buf.writeList 0 p) p.length .inSend s) := by
  have hsend : exec (.busSend p) s = .next (beginTransfer .send (s.bus.buf.writeList 0 p) p.length .inSend s) :=
    callEntry_eq_next.mpr ⟨h.free, h.rest, h.link, h.divisor, ⟨hpos, hcap⟩, rfl⟩
  exact runOps_cons_next hsend (runOps_cons_next (h.exec_evStart _ _ _ _) rfl)

theorem CallReady.runOps_recv (h : CallReady s) {n : Byte} (hpos : 1 ≤ n.toNat) (hcap : n.toNat ≤ 16) :
    runOps [.busRecv n, .evStart] s = .next (addressed .receive Memory.poisoned n.toNat .inRecv s) := by
  have hrecv : exec (.busRecv n) s = .next (beginTransfer .receive Memory.poisoned n.toNat .inRecv s) :=
    callEntry_eq_next.mpr ⟨h.free, h.rest, h.link, h.divisor, ⟨hpos, hcap⟩, rfl⟩
  exact runOps_cons_next hrecv (runOps_cons_next (h.exec_evStart _ _ _ _) rfl)

/-! The end of a call. -/

/-- The transaction has ended with this outcome and its stop is on the way (R137, R141). -/
structure Stopping (s : State) (outcome : TxOutcome) : Prop where
  rest : s.bus.busy = false
  link : s.bus.link = .stopPending
  req : s.eng.req = .stop
  outcome : s.bus.outcome = outcome

/-- The state with the stop condition on the wires (R147). -/
def stopDone (s : State) : State :=
  { s with
    buslog := s.buslog ++ [.p]
    eng := { s.eng with owned := false, phase := .afterStart, req := .none }
    bus := { s.bus with link := .idle } }

/-- The call has returned `r` to the host, and the bus is idle after it (R135, R147). -/
structure Returned (s t : State) (r : HostResult) (syms : List WireSym) : Prop where
  results : t.results = s.results ++ [r]
  buslog : t.buslog = s.buslog ++ syms
  link : t.bus.link = .idle
  rest : t.bus.busy = false
  free : t.blocked = .none
  owned : t.eng.owned = false

/-- After the stop condition BUS.RET returns what it returns. -/
theorem Stopping.runOps_return {o : TxOutcome} {r : HostResult} {syms : List WireSym} (h : Stopping t o)
    (hlog : t.buslog = s.buslog ++ syms) (hresults : t.results = s.results)
    (hret : execBusRet (stopDone t) = .next { stopDone t with
      blocked := .none, results := (stopDone t).results ++ [r] }) :
    ∃ u, runOps [.evStopdone, .busRet] t = .next u ∧ Returned s u r (syms ++ [.p]) := by
  have hstop : exec .evStopdone t = .next (stopDone t) := if_pos ⟨h.req, h.link⟩
  refine ⟨_, runOps_cons_next hstop (runOps_cons_next hret rfl), ?_⟩
  exact
    { results := congrArg (· ++ [r]) hresults
      buslog := (congrArg (· ++ [WireSym.p]) hlog).trans (List.append_assoc _ _ _)
      link := rfl, rest := h.rest, free := rfl, owned := rfl }

/-- After a send BUS.RET returns whether it was acknowledged (R135). -/
theorem Stopping.runOps_return_send {o : TxOutcome} {syms : List WireSym} (h : Stopping t o)
    (hlog : Logged { s with blocked := .inSend } t syms) :
    ∃ u, runOps [.evStopdone, .busRet] t = .next u ∧ Returned s u (.sent (decide (o = .acked))) (syms ++ [.p]) := by
  refine h.runOps_return hlog.buslog hlog.results ?_
  rw [← h.outcome]
  exact execBusRet_inSend (s := stopDone t) hlog.blocked h.rest rfl

/-! Sending. -/

/-- The bytes `rest` of the payload are still to be handed over, from the cursor on (R139, R140). -/
structure Remaining (s : State) (rest : List Byte) : Prop where
  busy : s.bus.busy = true
  dir : s.bus.dir = .send
  enabled : s.irq.enBus = true
  curSet : s.bus.curSet = true
  len : s.bus.len.toNat = s.bus.cur.toNat + rest.length
  cap : s.bus.len.toNat ≤ 16
  bytes : ∀ (k : Nat) (hk : k < rest.length), s.bus.buf.read? (s.bus.cur.toNat + k) = some rest[k]

/-- The engine has the byte `b` of the payload, and the bytes `rest` are still to be handed over. -/
structure Sending (s : State) (b : Byte) (rest : List Byte) : Prop extends Remaining s rest where
  link : s.bus.link = .transmitPhase
  evt : s.eng.evt = none
  req : s.eng.req = .tx b
  phase : s.eng.phase = .mt

/-- An acknowledged byte leaves the next one with the engine. -/
theorem Remaining.handleSendAck {v : Byte} {rest : List Byte} (h : Remaining s (v :: rest)) (c : BusCode)
    (sym : WireSym) (own : Bool) :
    ∃ t, handleSendAck (engineDone c none sym .mt own s) = .next t ∧ Logged s t [sym] ∧ Sending t v rest := by
  have hlen := h.len
  have hcap := h.cap
  rw [List.length_cons] at hlen
  have hlt : s.bus.cur.toNat < s.bus.len.toNat := by omega
  have hsucc : (s.bus.cur + 1#5).toNat = s.bus.cur.toNat + 1 := toNat_cur_succ (by omega)
  have hread : bufRead s.bus.buf s.bus.cur.toNat = .ok v :=
    bufRead_of_some (hlt.trans_le hcap) (h.bytes 0 (Nat.succ_pos _))
  have hlen' : s.bus.len.toNat = (s.bus.cur + 1#5).toNat + rest.length := by omega
  have hbytes' (k : Nat) (hk : k < rest.length) : s.bus.buf.read? ((s.bus.cur + 1#5).toNat + k) = some rest[k] := by
    rw [hsucc, Nat.add_right_comm]
    exact h.bytes (k + 1) (Nat.succ_lt_succ hk)
  refine ⟨_, handleSendAck_more (s := engineDone _ _ _ _ _ s) h.curSet hlt hread, ⟨rfl, rfl, rfl⟩, ?_⟩
  exact
    { busy := h.busy, dir := h.dir, enabled := h.enabled, curSet := h.curSet, len := hlen', cap := hcap
      bytes := hbytes', link := rfl, evt := rfl, req := rfl, phase := rfl }

theorem Sending.exec_evTxdAck {b : Byte} {rest : List Byte} (h : Sending s b rest) :
    exec .evTxdAck s = handleSendAck (engineDone .txdAck none (.byte b false) .mt s.eng.owned s) :=
  exec_event .txdAck (busContext_iff.mpr ⟨h.busy, h.dir, h.link⟩) h.evt (.txdAck h.req h.phase) h.enabled

/-- A peripheral that acknowledges every byte takes them all (R140, R141). -/
theorem Sending.runOps_acks {b : Byte} {rest : List Byte} (h : Sending s b rest) :
    ∃ t, runOps (List.replicate (rest.length + 1) .evTxdAck) s = .next t ∧
      Logged s t ((b :: rest).map (.byte · false)) ∧ Stopping t .acked := by
  induction rest generalizing s b with
  | nil =>
    have hlast := handleSendAck_last (s := engineDone .txdAck none (.byte b false) .mt s.eng.owned s) h.curSet
      h.len.le
    exact ⟨_, runOps_cons_next (h.exec_evTxdAck.trans hlast) rfl, ⟨rfl, rfl, rfl⟩, ⟨rfl, rfl, rfl, rfl⟩⟩
  | cons v rest ih =>
    obtain ⟨t, ht, hlog, hnext⟩ := h.toRemaining.handleSendAck .txdAck (.byte b false) s.eng.owned
    obtain ⟨u, hu, hlog', hstop⟩ := ih hnext
    exact ⟨u, runOps_cons_next (h.exec_evTxdAck.trans ht) hu, hlog.trans hlog', hstop⟩

/-- A send to a peripheral that acknowledges everything (R155). -/
theorem CallReady.runOps_opsSend (h : CallReady s) {p : List Byte} (hpos : 1 ≤ p.length) (hcap : p.length ≤ 16) :
    ∃ t, runOps (opsSend p) s = .next t ∧ Returned s t (.sent true)
      ([.s, .byte (addrByte s.cfg .send) false] ++ p.map (.byte · false) ++ [.p]) := by
  obtain ⟨v, rest, rfl⟩ : ∃ v rest, p = v :: rest := List.exists_cons_of_length_pos hpos
  have hentry := h.runOps_send hpos hcap
  have hremaining : Remaining (addressed .send (s.bus.buf.writeList 0 (v :: rest)) (v :: rest).length .inSend s)
      (v :: rest) :=
    { busy := rfl, dir := rfl, enabled := h.enabled, curSet := rfl
      len := (toNat_len hcap).trans (Nat.zero_add _).symm
      cap := (toNat_len hcap).trans_le hcap
      bytes := Memory.read?_writeList_inside (v :: rest) s.bus.buf 0 }
  have hslaw := exec_event (s := addressed .send (s.bus.buf.writeList 0 (v :: rest)) (v :: rest).length .inSend s)
    .slawAck (busContext_iff.mpr ⟨rfl, rfl, rfl⟩) rfl (.slawAck rfl rfl (addrByte_getLsbD_zero _ _)) h.enabled
  obtain ⟨t, ht, hlog', hsending⟩ := hremaining.handleSendAck .slawAck (.byte (addrByte s.cfg .send) false) true
  have hlog := logged_addressed .send (s.bus.buf.writeList 0 (v :: rest)) (v :: rest).length .inSend s
  obtain ⟨u, hu, hlog'', hstop⟩ := hsending.runOps_acks
  obtain ⟨w, hw, hreturned⟩ := hstop.runOps_return_send ((hlog.trans hlog').trans hlog'')
  have hbegin : runOps [.busSend (v :: rest), .evStart, .evSlawAck] s = .next t :=
    runOps_append_next hentry (runOps_cons_next (hslaw.trans ht) rfl)
  exact ⟨w, runOps_append_next (runOps_append_next hbegin hu) hw, hreturned⟩

/-- A send whose address is not acknowledged (R156). -/
theorem CallReady.runOps_opsSendRefused (h : CallReady s) {p : List Byte} (hpos : 1 ≤ p.length)
    (hcap : p.length ≤ 16) :
    ∃ t, runOps (opsSendRefused p) s = .next t ∧
      Returned s t (.sent false) [.s, .byte (addrByte s.cfg .send) true, .p] := by
  have hentry := h.runOps_send hpos hcap
  have hslaw := exec_event (s := addressed .send (s.bus.buf.writeList 0 p) p.length .inSend s) .slawNack
    (busContext_iff.mpr ⟨rfl, rfl, rfl⟩) rfl (.slawNack rfl rfl (addrByte_getLsbD_zero _ _)) h.enabled
  have hstop : Stopping (abort (consumeEvent (engineDone .slawNack none (.byte (addrByte s.cfg .send) true) .mt true
      (addressed .send (s.bus.buf.writeList 0 p) p.length .inSend s)))) .nackAbort := ⟨rfl, rfl, rfl, rfl⟩
  obtain ⟨w, hw, hreturned⟩ := hstop.runOps_return_send ((logged_addressed _ _ _ _ s).trans ⟨rfl, rfl, rfl⟩)
  exact ⟨w, runOps_append_next hentry (runOps_cons_next hslaw hw), hreturned⟩

/-! Receiving. -/

/-- The buffer holds these bytes from index 0 on. -/
def Memory.Holds (m : Memory) (bs : List Byte) : Prop := ∀ (a : Nat) (h : a < bs.length), m.read? a = some bs[a]

/-- A byte stored after the bytes held. -/
theorem Memory.Holds.write {m : Memory} {bs : List Byte} (h : m.Holds bs) (v : Byte) :
    (m.write bs.length v).Holds (bs ++ [v]) := by
  intro a ha
  rw [List.length_append, List.length_singleton] at ha
  by_cases hlast : a = bs.length
  · subst hlast
    simp
  · rw [Memory.read?_write_other m v hlast, List.getElem_append_left (by omega)]
    exact h a (by omega)

/-- How the receiver is armed with `n` bytes to come before the last one (R144, R146). -/
def Armed (n : Nat) (s : State) : Prop :=
  match n with
  | 0 => s.eng.req = .rx false ∧ s.bus.link = .receivePhaseLast
  | _ + 1 => s.eng.req = .rx true ∧ s.bus.link = .receivePhaseMulti

/-- The bytes `got` have been stored, and `n` are to come before the last one. -/
structure Receiving (s : State) (got : List Byte) (n : Nat) : Prop where
  busy : s.bus.busy = true
  dir : s.bus.dir = .receive
  evt : s.eng.evt = none
  phase : s.eng.phase = .mr
  enabled : s.irq.enBus = true
  curSet : s.bus.curSet = true
  armed : Armed n s
  cur : s.bus.cur.toNat = got.length
  len : s.bus.len.toNat = got.length + n + 1
  cap : s.bus.len.toNat ≤ 16
  bytes : s.bus.buf.Holds got

/-- An acknowledged byte is stored and the receiver is armed for the next (R146). -/
theorem Receiving.exec_evRxdAck {got : List Byte} {n : Nat} (h : Receiving s got (n + 1)) (v : Byte) :
    ∃ t, exec (.evRxdAck v) s = .next t ∧ Logged s t [.byte v false] ∧ Receiving t (got ++ [v]) n := by
  obtain ⟨hreq, hlink⟩ := h.armed
  have hcur := h.cur
  have hlen := h.len
  have hcap := h.cap
  have hsucc : (s.bus.cur + 1#5).toNat = s.bus.cur.toNat + 1 := toNat_cur_succ (by omega)
  have hcur' : (s.bus.cur + 1#5).toNat = (got ++ [v]).length := by simp [hsucc, hcur]
  have hlen' : s.bus.len.toNat = (got ++ [v]).length + n + 1 := by simp; omega
  have hbytes : (s.bus.buf.write s.bus.cur.toNat v).Holds (got ++ [v]) := hcur ▸ h.bytes.write v
  have hin : s.bus.cur.toNat < Config.bufCap := show s.bus.cur.toNat < 16 by omega
  have hexec := exec_event (.rxdAck v) (busContext_iff.mpr ⟨h.busy, h.dir, hlink⟩) h.evt (.rxdAck hreq h.phase)
    h.enabled
  cases n with
  | zero =>
    have hone : s.bus.len.toNat = (s.bus.cur + 1#5).toNat + 1 := by omega
    refine ⟨_, hexec.trans (handleRxdAck_one (s := engineDone _ _ _ _ _ s) h.curSet hin hone), ⟨rfl, rfl, rfl⟩, ?_⟩
    exact
      { busy := h.busy, dir := h.dir, evt := rfl, phase := rfl, enabled := h.enabled, curSet := h.curSet
        armed := ⟨rfl, rfl⟩, cur := hcur', len := hlen', cap := hcap, bytes := hbytes }
  | succ n =>
    have hmany : s.bus.len.toNat ≠ (s.bus.cur + 1#5).toNat + 1 := by omega
    refine ⟨_, hexec.trans (handleRxdAck_many (s := engineDone _ _ _ _ _ s) h.curSet hin hmany), ⟨rfl, rfl, rfl⟩, ?_⟩
    exact
      { busy := h.busy, dir := h.dir, evt := rfl, phase := rfl, enabled := h.enabled, curSet := h.curSet
        armed := ⟨rfl, hlink⟩, cur := hcur', len := hlen', cap := hcap, bytes := hbytes }

/-- The last byte is stored and the transaction completes (R149). -/
theorem Receiving.exec_evRxdNack {got : List Byte} (h : Receiving s got 0) (v : Byte) :
    ∃ t, exec (.evRxdNack v) s = .next t ∧ Logged s t [.byte v true] ∧ Stopping t .acked ∧
      t.bus.len.toNat = (got ++ [v]).length ∧ t.bus.buf.Holds (got ++ [v]) := by
  obtain ⟨hreq, hlink⟩ := h.armed
  have hcur := h.cur
  have hlen := h.len
  have hcap := h.cap
  have hin : s.bus.cur.toNat < Config.bufCap := show s.bus.cur.toNat < 16 by omega
  have hexec := exec_event (.rxdNack v) (busContext_iff.mpr ⟨h.busy, h.dir, hlink⟩) h.evt (.rxdNack hreq h.phase)
    h.enabled
  refine ⟨_, hexec.trans (handleRxdNack_stored (s := engineDone _ _ _ _ _ s) h.curSet hin), ⟨rfl, rfl, rfl⟩,
    ⟨rfl, rfl, rfl, rfl⟩, ?_, ?_⟩
  · rw [List.length_append]
    exact hlen
  · have hbytes : (s.bus.buf.write s.bus.cur.toNat v).Holds (got ++ [v]) := hcur ▸ h.bytes.write v
    exact hbytes

/-- All the bytes supplied are stored in order, the last one not acknowledged (R158). -/
theorem Receiving.runOps_bytes {got d : List Byte} (h : Receiving s got d.length) (last : Byte) :
    ∃ t, runOps (d.map .evRxdAck ++ [.evRxdNack last]) s = .next t ∧
      Logged s t (d.map (.byte · false) ++ [.byte last true]) ∧ Stopping t .acked ∧
      t.bus.len.toNat = (got ++ (d ++ [last])).length ∧ t.bus.buf.Holds (got ++ (d ++ [last])) := by
  induction d generalizing s got with
  | nil =>
    obtain ⟨t, ht, hfin⟩ := h.exec_evRxdNack last
    exact ⟨t, runOps_cons_next ht rfl, hfin⟩
  | cons v d ih =>
    obtain ⟨t, ht, hlog, hnext⟩ := h.exec_evRxdAck v
    obtain ⟨u, hu, hlog', hstop, hlen, hbytes⟩ := ih hnext
    rw [List.append_assoc] at hlen hbytes
    exact ⟨u, runOps_cons_next ht hu, hlog.trans hlog', hstop, hlen, hbytes⟩

/-- The acknowledged read address arms the receiver (R144, R157). -/
theorem CallReady.exec_evSlarAck (h : CallReady s) {n : Nat} (hn : n + 1 ≤ 16) :
    ∃ t, exec .evSlarAck (addressed .receive Memory.poisoned (n + 1) .inRecv s) = .next t ∧
      Logged (addressed .receive Memory.poisoned (n + 1) .inRecv s) t [.byte (addrByte s.cfg .receive) false] ∧
      Receiving t [] n := by
  have hlen : (addressed .receive Memory.poisoned (n + 1) .inRecv s).bus.len.toNat = n + 1 := toNat_len hn
  have hcur : (addressed .receive Memory.poisoned (n + 1) .inRecv s).bus.cur.toNat = 0 := rfl
  obtain ⟨hone, hmany⟩ := acknowledgedReadArms (addressed .receive Memory.poisoned (n + 1) .inRecv s)
    (addrByte s.cfg .receive) rfl rfl rfl rfl rfl (addrByte_getLsbD_zero _ _) rfl h.enabled rfl
  cases n with
  | zero =>
    refine ⟨_, hone (by omega), ⟨rfl, rfl, rfl⟩, ?_⟩
    exact
      { busy := rfl, dir := rfl, evt := rfl, phase := rfl, enabled := h.enabled, curSet := rfl, armed := ⟨rfl, rfl⟩
        cur := rfl, len := hlen, cap := hlen.trans_le hn, bytes := fun _ ha => absurd ha (Nat.not_lt_zero _) }
  | succ n =>
    refine ⟨_, hmany (by omega), ⟨rfl, rfl, rfl⟩, ?_⟩
    exact
      { busy := rfl, dir := rfl, evt := rfl, phase := rfl, enabled := h.enabled, curSet := rfl, armed := ⟨rfl, rfl⟩
        cur := rfl, len := hlen.trans (congrArg (· + 1) (Nat.zero_add _).symm), cap := hlen.trans_le hn
        bytes := fun _ ha => absurd ha (Nat.not_lt_zero _) }

/-- A receive from a peripheral that acknowledges its address (R158). -/
theorem CallReady.runOps_opsRecv (h : CallReady s) {d : List Byte} (last : Byte) (hcap : d.length ≤ 15) :
    ∃ t, runOps (opsRecv d last) s = .next t ∧ Returned s t (.received (some (d ++ [last])))
      ([.s, .byte (addrByte s.cfg .receive) false] ++ d.map (.byte · false) ++ [.byte last true, .p]) := by
  have hn : (BitVec.ofNat 8 (d.length + 1)).toNat = d.length + 1 := by simp; omega
  have hentry := h.runOps_recv (n := BitVec.ofNat 8 (d.length + 1)) (by omega) (by omega)
  rw [hn] at hentry
  obtain ⟨t, ht, hlog, hrecv⟩ := h.exec_evSlarAck (n := d.length) (by omega)
  obtain ⟨u, hu, hlog', hstop, hlen, hbytes⟩ := hrecv.runOps_bytes last
  rw [List.nil_append] at hlen hbytes
  have hall := ((logged_addressed _ _ _ _ s).trans hlog).trans hlog'
  have hret := execBusRet_received (s := stopDone u) hall.blocked hstop.rest rfl hstop.outcome hlen.symm
    (by simp; omega) hbytes
  obtain ⟨w, hw, hreturned⟩ := hstop.runOps_return (s := s) hall.buslog hall.results hret
  have hbegin : runOps [.busRecv (BitVec.ofNat 8 (d.length + 1)), .evStart, .evSlarAck] s = .next t :=
    runOps_append_next hentry (runOps_cons_next ht rfl)
  refine ⟨w, ?_, by simpa using hreturned⟩
  have hrun := runOps_append_next (runOps_append_next hbegin hu) hw
  simpa [opsRecv] using hrun

/-! The line level. -/

/-- A receiver reads each bit once, on its sample with SCL high (R163). -/
theorem sampledBits_bits (bits : List Bool) : sampledBits (bits.flatMap bitSamples) = bits := by
  induction bits with
  | nil => rfl
  | cons v bits ih => simpa [sampledBits, bitSamples] using ih

/-- The samples begin with SCL low. -/
def StartsLow : List LineSample → Prop
  | [] => False
  | x :: _ => x.scl = false

/-- No edge is seen across a bit and the low SCL after it. -/
theorem highEdges_bit (v : Bool) {tr : List LineSample} (h : StartsLow tr) :
    highEdges (bitSamples v ++ tr) = highEdges tr := by
  cases tr with
  | nil => exact h.elim
  | cons x tr =>
    have hx : x.scl = false := h
    simp [bitSamples, highEdges, hx]

/-- Bits show no edge: SDA changes while SCL is low (R162). -/
theorem highEdges_bits (bits : List Bool) {tr : List LineSample} (h : StartsLow tr) :
    highEdges (bits.flatMap bitSamples ++ tr) = highEdges tr ∧ StartsLow (bits.flatMap bitSamples ++ tr) := by
  induction bits with
  | nil => exact ⟨rfl, h⟩
  | cons v bits ih =>
    obtain ⟨hedges, hlow⟩ := ih
    rw [List.flatMap_cons, List.append_assoc]
    exact ⟨(highEdges_bit v hlow).trans hedges, rfl⟩

theorem length_samples_byte (b : Byte) (k : Bool) : (WireSym.byte b k).samples.length = 18 := rfl

/-- Byte symbols show no edge before what follows them. -/
theorem highEdges_bytes (bytes : List (Byte × Bool)) {tr : List LineSample} (h : StartsLow tr) :
    highEdges (lineTrace (bytes.map fun x => .byte x.1 x.2) ++ tr) = highEdges tr ∧
      StartsLow (lineTrace (bytes.map fun x => .byte x.1 x.2) ++ tr) := by
  induction bytes with
  | nil => exact ⟨rfl, h⟩
  | cons x bytes ih =>
    obtain ⟨hedges, hlow⟩ := ih
    rw [List.map_cons, lineTrace, List.flatMap_cons, List.append_assoc]
    obtain ⟨hbits, hstart⟩ := highEdges_bits (byteBits x.1 ++ [x.2]) hlow
    exact ⟨hbits.trans hedges, hstart⟩

theorem length_lineTrace_bytes (bytes : List (Byte × Bool)) :
    (lineTrace (bytes.map fun x => .byte x.1 x.2)).length = 18 * bytes.length := by
  induction bytes with
  | nil => rfl
  | cons x bytes ih =>
    rw [List.map_cons, lineTrace, List.flatMap_cons, List.length_append, length_samples_byte, ← lineTrace, ih,
      List.length_cons]
    omega

theorem lineTrace_append (a b : List WireSym) : lineTrace (a ++ b) = lineTrace a ++ lineTrace b :=
  List.flatMap_append

/-- The start condition falls under a high SCL and then leaves SCL low (R162). -/
theorem highEdges_start (tr : List LineSample) : highEdges (lineTrace [.s] ++ tr) = false :: highEdges tr := by
  cases tr <;> rfl

/-! The statements. -/

/-- Settles O55: the run of acknowledged bytes, or the abort at the address, and then the return. -/
theorem sendTransactions : Obligations.SendTransactions := by
  rintro s p a hpos hcap ha hfree hrest hlink hdiv hown hen
  have hready : CallReady s := ⟨hfree, hrest, hlink, hdiv, hown, hen⟩
  obtain rfl : addrByte s.cfg .send = a := (addrByte_eq _ _).trans ha.symm
  refine ⟨?_, ?_⟩
  · obtain ⟨t, ht, hret⟩ := hready.runOps_opsSend hpos hcap
    refine ⟨t, ht, hret.results, ?_, hret.link, hret.rest, hret.free, hret.owned⟩
    simpa using hret.buslog
  · obtain ⟨t, ht, hret⟩ := hready.runOps_opsSendRefused hpos hcap
    exact ⟨t, ht, hret.results, hret.buslog, hret.link, hret.rest, hret.free⟩

/-- Settles O56: the run of received bytes, and then the return of the buffer that holds them. -/
theorem receiveReturnsBytes : Obligations.ReceiveReturnsBytes := by
  rintro s d last a hcap ha hfree hrest hlink hdiv hown hen
  have hready : CallReady s := ⟨hfree, hrest, hlink, hdiv, hown, hen⟩
  obtain rfl : addrByte s.cfg .receive = a := (addrByte_eq _ _).trans ha.symm
  obtain ⟨t, ht, hret⟩ := hready.runOps_opsRecv last hcap
  refine ⟨t, ht, hret.results, ?_, hret.link, hret.rest, hret.free, hret.owned⟩
  simpa using hret.buslog

/-- Settles O59: bits show no edge, so the start's and the stop's are the only ones. -/
theorem lineTraceReadsBack : Obligations.LineTraceReadsBack := by
  refine ⟨fun b k => ⟨length_samples_byte b k, fun i hi => ?_, ?_⟩, fun bytes => ⟨?_, ?_⟩⟩
  · have hbits : sampledBits (WireSym.byte b k).samples = byteBits b ++ [k] := sampledBits_bits _
    rw [hbits]
    interval_cases i <;> rfl
  · exact congrArg (·[8]?) (sampledBits_bits (byteBits b ++ [k]))
  · obtain ⟨hedges, -⟩ := highEdges_bytes bytes (tr := lineTrace [.p]) rfl
    rw [lineTrace_append, lineTrace_append, List.append_assoc, highEdges_start, hedges]
    rfl
  · rw [lineTrace_append, lineTrace_append, List.length_append, List.length_append, length_lineTrace_bytes]
    rfl

end Sys2Proof.Machine

/-!
The pulse decoder (`41_pulse_decoder.md`): the published bytes (R172, R173), one tick of a channel (R171), what an
operation can do to the decoder (R178), runs of sampler ticks (R179), and the host's reads (R176, R177).
-/

namespace Sys2Proof.Machine

variable {s t : State}

/-! The published bytes. -/

theorem toNat_ofInt_clamp (x : Int) : (BitVec.ofInt 8 (clamp x 0 255)).toNat = min x.toNat 255 := by
  rw [BitVec.toNat_ofInt]
  unfold clamp
  omega

/-- A count within its window is published unclamped (R172). -/
theorem toNat_dutyByte {n win : Nat} (h : n ≤ win) : (dutyByte n win).toNat = n * 255 / win := by
  have hquot : ((n : Int) * 255).tdiv win = ((n * 255 / win : Nat) : Int) := by norm_cast
  have hle : n * 255 / win ≤ 255 := Nat.div_le_of_le_mul (Nat.mul_le_mul_right 255 h)
  rw [dutyByte, toNat_ofInt_clamp, hquot, Int.toNat_natCast, Nat.min_eq_left hle]

/-- A count below the minimum is published as 0, the value that truncated subtraction gives (R173). -/
theorem toNat_throttleByte {c : Config} (h : c.escCntMin < c.escCntMax) (n : Nat) :
    (throttleByte c n).toNat = min ((n - c.escCntMin) * 255 / (c.escCntMax - c.escCntMin)) 255 := by
  have hspan : (c.escCntMax : Int) - c.escCntMin = ((c.escCntMax - c.escCntMin : Nat) : Int) :=
    (Int.ofNat_sub h.le).symm
  rw [throttleByte, toNat_ofInt_clamp, hspan]
  congr 1
  obtain hlow | hhigh := Nat.lt_or_ge n c.escCntMin
  · have hneg : ((n : Int) - c.escCntMin) * 255 ≤ 0 := by omega
    have hquot : (((n : Int) - c.escCntMin) * 255).tdiv ((c.escCntMax - c.escCntMin : Nat) : Int) ≤ 0 :=
      (Int.tdiv_le_tdiv (by omega) hneg).trans_eq (Int.zero_tdiv _)
    rw [Int.toNat_of_nonpos hquot, Nat.sub_eq_zero_of_le hlow.le, Nat.zero_mul, Nat.zero_div]
  · rw [← Int.ofNat_sub hhigh]
    norm_cast

/-! One tick of a channel. -/

section Channel

variable {c : Chan} {lv : Bool} {win : Nat} {pub : Nat → Byte}

theorem Chan.tick_of_end (h : c.den.toNat + 1 = win) :
    c.tick lv win pub = { num := 0#16, den := 0#16, duty := pub (c.nextNum lv), dutySet := true } :=
  if_pos (decide_eq_true h)

theorem Chan.tick_of_not_end (h : c.den.toNat + 1 ≠ win) :
    c.tick lv win pub = { c with
      num := BitVec.ofNat 16 (c.nextNum lv), den := BitVec.ofNat 16 (c.den.toNat + 1) } :=
  if_neg (by simpa [windowEnds] using h)

theorem Chan.nextNum_le (h : c.num.toNat ≤ c.den.toNat) : c.nextNum lv ≤ c.den.toNat + 1 :=
  Nat.add_le_add h lv.toNat_le

/-- Inside a window of 16 bits neither count wraps. -/
theorem Chan.toNat_tick (hc : c.ok win) (hwin : win ≤ 65535) (h : c.den.toNat + 1 ≠ win) :
    (c.tick lv win pub).num.toNat = c.nextNum lv ∧ (c.tick lv win pub).den.toNat = c.den.toNat + 1 := by
  obtain ⟨hnum, hden⟩ := hc
  have hnext : c.nextNum lv ≤ c.den.toNat + 1 := nextNum_le hnum
  rw [tick_of_not_end h]
  refine ⟨?_, ?_⟩ <;> rw [BitVec.toNat_ofNat, Nat.mod_eq_of_lt (by omega)]

/-- R178 for one channel: a window's end zeroes both counts, every other tick counts `den` on, below the window. -/
theorem Chan.ok_tick (hc : c.ok win) (hwin : win ≤ 65535) : (c.tick lv win pub).ok win := by
  by_cases hend : c.den.toNat + 1 = win
  · rw [tick_of_end hend]
    exact ⟨le_rfl, (Nat.zero_le _).trans_lt hc.2⟩
  · obtain ⟨hnum, hden⟩ := toNat_tick (lv := lv) (pub := pub) hc hwin hend
    obtain ⟨hle, hlt⟩ := hc
    unfold ok
    rw [hnum, hden]
    exact ⟨nextNum_le hle, by omega⟩

/-- A channel after ticks with these levels of its line. -/
def Chan.ticks (c : Chan) (win : Nat) (pub : Nat → Byte) (lvs : List Bool) : Chan :=
  lvs.foldl (fun c lv => c.tick lv win pub) c

/-- The rest of a window publishes the count so far and the high samples of that rest, wherever they stand. -/
theorem Chan.ticks_rest_of_window (hc : c.ok win) (hwin : win ≤ 65535) {lvs : List Bool}
    (hlen : c.den.toNat + lvs.length = win) :
    c.ticks win pub lvs =
      { num := 0#16, den := 0#16, duty := pub (c.num.toNat + lvs.count true), dutySet := true } := by
  induction lvs generalizing c with
  | nil => exact absurd hlen hc.2.ne
  | cons lv rest ih =>
    have hcount : (lv :: rest).count true = lv.toNat + rest.count true := by cases lv <;> simp [Nat.add_comm]
    by_cases hend : c.den.toNat + 1 = win
    · obtain rfl : rest = [] := List.length_eq_zero_iff.mp (by rw [List.length_cons] at hlen; omega)
      rw [hcount]
      exact tick_of_end hend
    · obtain ⟨hnum, hden⟩ := toNat_tick (lv := lv) (pub := pub) hc hwin hend
      have hrest := ih (ok_tick (lv := lv) (pub := pub) hc hwin) (by rw [List.length_cons] at hlen; omega)
      rw [hnum, nextNum, Nat.add_assoc, ← hcount] at hrest
      exact hrest

/-- A whole window, from zeroed counts (R171, R179). -/
theorem Chan.ticks_window (hnum : c.num = 0#16) (hden : c.den = 0#16) (hpos : 0 < win) (hwin : win ≤ 65535)
    {lvs : List Bool} (hlen : lvs.length = win) :
    c.ticks win pub lvs = { num := 0#16, den := 0#16, duty := pub (lvs.count true), dutySet := true } := by
  have hok : c.ok win := ⟨by rw [hnum, hden], by rw [hden]; exact hpos⟩
  have hrest := ticks_rest_of_window (pub := pub) hok hwin (lvs := lvs) (by simp [hden, hlen])
  simpa [hnum] using hrest

end Channel

/-! One tick of the decoder, channel by channel. -/

/-- The window of a channel (`00_scope.md` R8). -/
def chanWindow (c : Config) (id : ChanId) : Nat := if id = .c4 then c.pdWinLong else c.pdWinShort

/-- What a channel publishes of the count of its window (R172, R173). -/
def chanByte (c : Config) (id : ChanId) (n : Nat) : Byte :=
  if id = .c4 then throttleByte c n else dutyByte n c.pdWinShort

theorem chanWindow_bounds {c : Config} (hv : c.Valid) (id : ChanId) :
    0 < chanWindow c id ∧ chanWindow c id ≤ 65535 := by
  obtain ⟨-, hshort, hlong, -⟩ := hv
  unfold chanWindow
  split
  · exact hlong
  · exact hshort

/-- The decoder after one sampler tick with these levels on its lines. -/
def Decoder.sample (c : Config) (d : Decoder) (lv : BitVec 5) : Decoder := Decoder.tick c { d with lines := lv }

@[simp] theorem sample_chan (c : Config) (d : Decoder) (lv : BitVec 5) (id : ChanId) :
    (d.sample c lv).chan id = (d.chan id).tick (levelOf lv id) (chanWindow c id) (chanByte c id) := by
  cases id <;> rfl

/-- The end of channel 4's window publishes the shutdown condition (R174). -/
theorem sample_shutcond_of_end {c : Config} {d : Decoder} {lv : BitVec 5}
    (h : (d.chan .c4).den.toNat + 1 = c.pdWinLong) :
    (d.sample c lv).shutcond = shutOf c ((d.chan .c4).nextNum (levelOf lv .c4)) ∧
      (d.sample c lv).shutcondSet = true :=
  ⟨if_pos (decide_eq_true h), if_pos (decide_eq_true h)⟩

/-- Every other tick leaves it. -/
theorem sample_shutcond_of_not_end {c : Config} {d : Decoder} {lv : BitVec 5}
    (h : (d.chan .c4).den.toNat + 1 ≠ c.pdWinLong) :
    (d.sample c lv).shutcond = d.shutcond ∧ (d.sample c lv).shutcondSet = d.shutcondSet := by
  have hends : ¬ (d.chan .c4).windowEnds c.pdWinLong = true := by simpa [Chan.windowEnds] using h
  exact ⟨if_neg hends, if_neg hends⟩

/-- The last tick of a channel's window (R171 to R174). -/
theorem sample_at_end {c : Config} {d : Decoder} {lv : BitVec 5} {id : ChanId} (hv : c.Valid)
    (hok : (d.chan id).ok (chanWindow c id)) (hend : (d.chan id).den.toNat + 1 = chanWindow c id) :
    ((d.sample c lv).chan id).num = 0#16 ∧ ((d.sample c lv).chan id).den = 0#16 ∧
      ((d.sample c lv).chan id).dutySet = true ∧
      (id ≠ .c4 → ((d.sample c lv).chan id).duty.toNat =
        (d.chan id).nextNum (levelOf lv id) * 255 / chanWindow c id) ∧
      (id = .c4 → ((d.sample c lv).chan id).duty.toNat =
          min (((d.chan id).nextNum (levelOf lv id) - c.escCntMin) * 255 / (c.escCntMax - c.escCntMin)) 255 ∧
        (d.sample c lv).shutcond = shutOf c ((d.chan id).nextNum (levelOf lv id)) ∧
        (d.sample c lv).shutcondSet = true) := by
  obtain ⟨hnum, -⟩ := hok
  rw [sample_chan, Chan.tick_of_end hend]
  refine ⟨rfl, rfl, rfl, fun hshort => ?_, ?_⟩
  · have hle : (d.chan id).nextNum (levelOf lv id) ≤ chanWindow c id := hend ▸ Chan.nextNum_le hnum
    simp only [chanWindow, chanByte, if_neg hshort] at hle ⊢
    exact toNat_dutyByte hle
  · rintro rfl
    obtain ⟨-, -, -, hspan, -⟩ := hv
    exact ⟨toNat_throttleByte hspan _, sample_shutcond_of_end hend⟩

/-- Any other tick of a channel's window (R171). -/
theorem sample_inside {c : Config} {d : Decoder} {lv : BitVec 5} {id : ChanId} (hv : c.Valid)
    (hok : (d.chan id).ok (chanWindow c id)) (hinside : (d.chan id).den.toNat + 1 ≠ chanWindow c id) :
    ((d.sample c lv).chan id).num.toNat = (d.chan id).nextNum (levelOf lv id) ∧
      ((d.sample c lv).chan id).den.toNat = (d.chan id).den.toNat + 1 ∧
      ((d.sample c lv).chan id).duty = (d.chan id).duty ∧
      ((d.sample c lv).chan id).dutySet = (d.chan id).dutySet ∧
      (id = .c4 → (d.sample c lv).shutcond = d.shutcond ∧ (d.sample c lv).shutcondSet = d.shutcondSet) := by
  rw [sample_chan]
  obtain ⟨hnum, hden⟩ := Chan.toNat_tick hok (chanWindow_bounds hv id).2 hinside
  refine ⟨hnum, hden, ?_, ?_, ?_⟩
  · rw [Chan.tick_of_not_end hinside]
  · rw [Chan.tick_of_not_end hinside]
  · rintro rfl
    exact sample_shutcond_of_not_end hinside

theorem set_lines_chan (d : Decoder) (lv : BitVec 5) (id : ChanId) :
    Decoder.chan { d with lines := lv } id = d.chan id := by cases id <;> rfl

/-- The decoder's invariant, for all channels alike. -/
theorem decoderInv_iff : DecoderInv s ↔ ∀ id, (s.pd.chan id).ok (chanWindow s.cfg id) := by
  constructor
  · rintro ⟨h0, h1, h2, h3, h4⟩ id
    cases id with
    | c0 => exact h0
    | c1 => exact h1
    | c2 => exact h2
    | c3 => exact h3
    | c4 => exact h4
  · exact fun h => ⟨h .c0, h .c1, h .c2, h .c3, h .c4⟩

/-! What an operation does to the decoder. -/

/-- The input levels are recorded, and then the sampler handler may run (R171, `60_exceptions.md` R278). -/
def DecoderMove (c : Config) (d d' : Decoder) : Prop :=
  ∃ lv, d' = { d with lines := lv } ∨ d' = d.sample c lv

theorem DecoderMove.refl (c : Config) (d : Decoder) : DecoderMove c d d := ⟨d.lines, .inl rfl⟩

theorem DecoderMove.of_eq {c : Config} {d d' : Decoder} (h : d' = d) : DecoderMove c d d' := h ▸ .refl c d

theorem serveSource_sampler_pd (h : serveSource .sampler s = .next t) : DecoderMove s.cfg s.pd t.pd := by
  simp only [serveSource] at h
  split at h
  · rw [samplerTick_next h]; exact ⟨s.pd.lines, .inr rfl⟩
  · obtain rfl := Host.Outcome.next.inj h; exact .refl _ _

theorem Served.pd {src : Source} (hsrc : src ≠ .sampler) (h : Served s src t) : t.pd = s.pd := by
  cases h with
  | bus h _ => rw [h]
  | sampler => exact absurd rfl hsrc
  | display h => rw [h]
  | timer _ hu => obtain ⟨hstate, -, -⟩ := hu; rw [hstate]

theorem execIrqEnable_pd {k : BitVec 3} (h : execIrqEnable k s = .next t) : DecoderMove s.cfg s.pd t.pd := by
  obtain ⟨-, src, -, h⟩ := execIrqEnable_next h
  by_cases hsrc : src = .sampler
  · subst hsrc
    exact serveSource_sampler_pd (s := { s with irq := s.irq.setEn .sampler true }) h
  · have hpd := (served_of_serveSource h).pd hsrc
    exact .of_eq hpd

theorem due_pd {op : TimerOp} (h : due op s = .next t) : t.pd = s.pd := by
  obtain ⟨hstate, -, -⟩ | ⟨-, rfl⟩ := due_pins_or_hold h
  · rw [hstate]
  · rfl

theorem exec_sensing_pd {i : Instr} (hb : isBusOp i = false) (hm : isMotorCommand i = false)
    (hp : mayDrivePins i = false) (h : exec i s = .next t) : DecoderMove s.cfg s.pd t.pd := by
  cases i with
  | pdTick lv =>
    obtain ⟨_, rfl, ⟨-, rfl⟩ | ⟨-, rfl⟩⟩ := execPdTick_next h
    · exact ⟨lv, .inr rfl⟩
    · exact ⟨lv, .inl rfl⟩
  | pdRead => obtain ⟨_, rfl⟩ := execPdRead_next h; exact .refl _ _
  | pdReadshut => obtain rfl := pdReadshut_gives rfl h; exact .refl _ _
  | oriUpdate => obtain rfl := Host.Outcome.next.inj (hostOp_eq_next.mp h).2; exact .refl _ _
  | oriSign => obtain rfl := oriSign_gives h; exact .refl _ _
  | schDtick => obtain ⟨-, rfl⟩ | ⟨-, rfl⟩ := execSchDtick_next h <;> exact .refl _ _
  | irqDisable => obtain ⟨_, -, rfl⟩ := execIrqDisable_next h; exact .refl _ _
  | schTake k => obtain rfl | rfl := execSchTake_next h <;> cases k <;> exact .refl _ _
  | busInit | busSend | busRecv | busRet => cases hb
  | evStart | evRstart | evSlawAck | evSlawNack | evTxdAck | evTxdNack | evSlarAck | evSlarNack => cases hb
  | evRxdAck | evRxdNack | evOther | evStopdone => cases hb
  | motSetb | motSete | motShut | motRecomp | motSetbl | motSetbh => cases hm
  | motOn | motOff | motOvf | escAssert | escDeassert | tmrTick | irqEnable => cases hp

/-- An operation leaves the decoder as it is, or it is PD.TICK, or it runs the held sampler tick. -/
theorem exec_pd {i : Instr} (h : exec i s = .next t) : DecoderMove s.cfg s.pd t.pd := by
  obtain hb | hm | ⟨k, rfl⟩ | ⟨hp, hh⟩ | ⟨hb, hm, hp⟩ := instr_families i
  · exact .of_eq (by rw [exec_bus_frame hb h])
  · exact .of_eq (by rw [exec_motorCommand_frame hm h])
  · exact execIrqEnable_pd h
  · obtain ⟨r, -, hrun⟩ := exec_timerEvent_next hp hh h
    exact .of_eq (hrun.keeps (P := fun u => u.pd = s.pd) (fun _ _ _ _ hd hu => (due_pd hd).trans hu) rfl)
  · exact exec_sensing_pd hb hm hp h

theorem exec_decoderInv {i : Instr} (hv : s.cfg.Valid) (hs : DecoderInv s) (h : exec i s = .next t) :
    DecoderInv t := by
  refine decoderInv_iff.mpr fun id => ?_
  have hok := decoderInv_iff.mp hs id
  rw [exec_cfg h]
  obtain ⟨lv, hpd | hpd⟩ := exec_pd h <;> rw [hpd]
  · rwa [set_lines_chan]
  · rw [sample_chan]
    exact Chan.ok_tick hok (chanWindow_bounds hv id).2

/-! PD.TICK. -/

/-- Bit `k` of the levels is channel `k`'s (`30_encoding.md` R93). -/
theorem levelOf_of_mem {id : ChanId} {k : Nat}
    (h : (id, k) ∈ [(ChanId.c0, 0), (.c1, 1), (.c2, 2), (.c3, 3), (.c4, 4)]) (lv : BitVec 5) :
    levelOf lv id = lv.getLsbD k := by
  simp only [List.mem_cons, Prod.mk.injEq, List.not_mem_nil, or_false] at h
  obtain ⟨rfl, rfl⟩ | ⟨rfl, rfl⟩ | ⟨rfl, rfl⟩ | ⟨rfl, rfl⟩ | ⟨rfl, rfl⟩ := h <;> rfl

theorem exec_pdTick_held (lv : BitVec 5) (hsrc : s.cfg.cmdSource = .pulseDecoded) (hen : s.irq.enSampler = false) :
    exec (.pdTick lv) s = .next { s with
      pd := { s.pd with lines := lv }, irq := { s.irq with pendSampler := true } } :=
  (withDecoder_of_present hsrc).trans (deliver_disabled (s := { s with pd := { s.pd with lines := lv } }) hen)

theorem exec_pdTick_run (lv : BitVec 5) (hsrc : s.cfg.cmdSource = .pulseDecoded) (hen : s.irq.enSampler = true) :
    exec (.pdTick lv) s = .next { s with pd := s.pd.sample s.cfg lv } := by
  refine (withDecoder_of_present hsrc).trans ?_
  refine (deliver_enabled (src := .sampler) (s := { s with pd := { s.pd with lines := lv } }) hen).trans ?_
  exact withDecoder_of_present hsrc

/-- On the enabled source a list of sampler ticks runs, and every channel counts its own line. -/
theorem runOps_pdTick (lvs : List (BitVec 5)) (hsrc : s.cfg.cmdSource = .pulseDecoded)
    (hen : s.irq.enSampler = true) :
    ∃ t, runOps (lvs.map .pdTick) s = .next t ∧ ∀ id, t.pd.chan id =
      (s.pd.chan id).ticks (chanWindow s.cfg id) (chanByte s.cfg id) (lvs.map (levelOf · id)) := by
  induction lvs generalizing s with
  | nil => exact ⟨s, rfl, fun _ => rfl⟩
  | cons lv rest ih =>
    obtain ⟨t, hrun, hchan⟩ := ih (s := { s with pd := s.pd.sample s.cfg lv }) hsrc hen
    refine ⟨t, runOps_cons_next (exec_pdTick_run lv hsrc hen) hrun, fun id => ?_⟩
    rw [hchan, sample_chan]
    rfl

/-- Half of a window gives 127 (R179). -/
theorem half_duty {n win : Nat} (hpos : 0 < win) (h : 2 * n = win) : n * 255 / win = 127 := by
  subst h
  rw [Nat.div_eq_iff hpos]
  omega

/-! The host's reads. -/

theorem chanOf_of_mem {id : ChanId} {k : BitVec 3}
    (h : (id, k) ∈ [(ChanId.c0, 0#3), (.c1, 1#3), (.c2, 2#3), (.c3, 3#3), (.c4, 4#3)]) : chanOf k = some id := by
  simp only [List.mem_cons, Prod.mk.injEq, List.not_mem_nil, or_false] at h
  obtain ⟨rfl, rfl⟩ | ⟨rfl, rfl⟩ | ⟨rfl, rfl⟩ | ⟨rfl, rfl⟩ | ⟨rfl, rfl⟩ := h <;> rfl

theorem exec_pdRead {id : ChanId} {k : BitVec 3} (hk : chanOf k = some id) (hfree : s.blocked = .none)
    (hsrc : s.cfg.cmdSource = .pulseDecoded) :
    exec (.pdRead k) s = if (s.pd.chan id).dutySet then .next (s.giveResult (.duty (s.pd.chan id).duty))
      else .refused (.unspecifiedField (.duty id)) := by
  change execPdRead k s = _
  rw [execPdRead, hostOp_of_free hfree, withDecoder_of_present hsrc, hk]

theorem exec_pdReadshut (hfree : s.blocked = .none) (hsrc : s.cfg.cmdSource = .pulseDecoded) :
    exec .pdReadshut s = if s.pd.shutcondSet then .next (s.giveResult (.shut s.pd.shutcond))
      else .refused (.unspecifiedField .shutcond) :=
  (hostOp_of_free hfree).trans (withDecoder_of_present hsrc)

/-! The statements. -/

/-- Settles O14: every operation keeps the accumulators, since it leaves them alone or counts one tick. -/
theorem stepKeepsAccumulators : Obligations.StepKeepsAccumulators :=
  fun _ _ hs h => step_keeps (fun _ _ _ hs => hs) (fun _ _ _ hv hs he => exec_decoderInv hv hs he) hs h

/-- Settles O41: the tick of each channel, at the end of its window and inside it. -/
theorem samplerTickCounts : Obligations.SamplerTickCounts := by
  intro s lv hv hsrc hinv
  refine ⟨exec_pdTick_held lv hsrc, fun hen => ⟨_, exec_pdTick_run lv hsrc hen, rfl, rfl, ?_⟩⟩
  intro id k win n hid hwin hn
  have hok := decoderInv_iff.mp hinv id
  obtain rfl : win = chanWindow s.cfg id := hwin
  obtain rfl : n = (s.pd.chan id).nextNum (levelOf lv id) := by
    rw [hn, levelOf_of_mem hid, Chan.nextNum, Bool.toNat, Bool.cond_eq_ite]
  exact ⟨sample_at_end hv hok, sample_inside hv hok⟩

/-- Settles O43: a whole window is the rest of one that has counted nothing yet. -/
theorem windowPublishesCount : Obligations.WindowPublishesCount := by
  intro s id k lvs hid hv hsrc hen hnum hden hlen
  have hlevel (lv : BitVec 5) : levelOf lv id = lv.getLsbD k :=
    levelOf_of_mem (List.mem_append_left [(ChanId.c4, 4)] hid) lv
  have hcount : (lvs.map (levelOf · id)).count true = lvs.countP fun lv => lv.getLsbD k := by
    simp [List.count, List.countP_map, Function.comp_def, hlevel]
  have hshort : id ≠ .c4 := by rintro rfl; simp at hid
  have hwindow : chanWindow s.cfg id = s.cfg.pdWinShort := if_neg hshort
  have hpub : chanByte s.cfg id (lvs.countP fun lv => lv.getLsbD k) = dutyByte _ s.cfg.pdWinShort := if_neg hshort
  obtain ⟨hpos, hmax⟩ := chanWindow_bounds hv id
  obtain ⟨t, hrun, hchan⟩ := runOps_pdTick lvs hsrc hen
  have hfull := (hchan id).trans (Chan.ticks_window hnum hden hpos hmax (by simp [hlen, hwindow]))
  rw [hcount, hpub] at hfull
  have hle : (lvs.countP fun lv => lv.getLsbD k) ≤ s.cfg.pdWinShort := hlen ▸ List.countP_le_length
  have hduty := toNat_dutyByte hle
  refine ⟨t, hrun, ?_⟩
  rw [hfull]
  refine ⟨rfl, rfl, rfl, hduty, fun hhalf => BitVec.eq_of_toNat_eq ?_⟩
  exact hduty.trans (half_duty (hwindow ▸ hpos) hhalf)

/-- Settles O42: a read gives its field where it has been published. -/
theorem hostReadsReturn : Obligations.HostReadsReturn := by
  intro s hfree
  refine ⟨fun hsrc => ⟨fun id k hid => ?_, fun hset => ?_, fun hset => ?_⟩, hostOp_of_free hfree⟩
  · rw [exec_pdRead (chanOf_of_mem hid) hfree hsrc]
    exact ⟨fun hset => if_pos hset, fun hset => if_neg (by simp [hset])⟩
  · rw [exec_pdReadshut hfree hsrc]; exact if_pos hset
  · rw [exec_pdReadshut hfree hsrc]; exact if_neg (by simp [hset])

end Sys2Proof.Machine

/-!
The motor driver (`42_motor_driver.md`): the host's commands and the recomputed thresholds (R191 to R198, R207), the
handlers on an enabled source (R200 to R206), a timer's tick as a run of the operations that fall due (R210, R211), and
the pins at the extreme powers (R213, R214).
-/

namespace Sys2Proof.Machine

variable {s t : State}

/-! The host's commands. -/

/-- A clamped power fits its word (R191). -/
theorem toInt_ofInt_clamp (x : Int) : (BitVec.ofInt 16 (clamp x (-255) 255)).toInt = max (-255) (min x 255) := by
  rw [BitVec.toInt_ofInt, Int.bmod_eq_of_le] <;> unfold clamp <;> omega

/-- The low and the high byte of a word, as numbers. -/
theorem toNat_byteOf_word (w : Word16) :
    (byteOf w 0).toNat = w.toNat % 256 ∧ (byteOf w 1).toNat = w.toNat / 256 := by
  have hword : w.toNat = 256 * (byteOf w 1).toNat + (byteOf w 0).toNat := by rw [← toNat_wordOf, wordOf_byteOf]
  have hlo := (byteOf w 0).isLt
  omega

theorem toNat_set_low_byte (w : Word16) (b : Byte) :
    (wordOf b (byteOf w 1)).toNat = w.toNat / 256 * 256 + b.toNat := by
  rw [toNat_wordOf, (toNat_byteOf_word w).2, mul_comm]

theorem toNat_set_high_byte (w : Word16) (b : Byte) :
    (wordOf (byteOf w 0) b).toNat = b.toNat * 256 + w.toNat % 256 := by
  rw [toNat_wordOf, (toNat_byteOf_word w).1, mul_comm]

/-! MOT.RECOMP. -/

/-- The off threshold of variant A, which fits its word (R196). -/
theorem toNat_offThreshold_a {c : Config} (hv : c.Valid) (ha : c.motVariant = .a) (p : Word16) :
    (offThreshold c p).toNat = min p.toInt.natAbs 255 * c.motTopA / 255 := by
  obtain ⟨-, -, -, -, -, ⟨-, htop⟩, -⟩ := hv
  have hle : mag p * c.motTopA / 255 ≤ c.motTopA := scaled_le _ (mag_le p)
  simp only [offThreshold, ha]
  rw [BitVec.toNat_ofNat, Nat.mod_eq_of_lt (by omega), mag]

/-- The off threshold of variant B is the magnitude itself (R196). -/
theorem toNat_offThreshold_b {c : Config} (hb : c.motVariant = .b) (p : Word16) :
    (offThreshold c p).toNat = min p.toInt.natAbs 255 := by
  have hle := mag_le p
  simp only [offThreshold, hb]
  rw [BitVec.toNat_ofNat, Nat.mod_eq_of_lt (by omega), mag]

/-- The pulse width fits its word (R207). -/
theorem toNat_escWidth {c : Config} (hv : c.Valid) (p : Byte) :
    (escWidth c p).toNat = c.escWMin + p.toNat * (c.escWMax - c.escWMin) / 255 := by
  obtain ⟨-, -, -, -, -, -, -, ⟨-, hlt, hframe, hmax⟩, -⟩ := hv
  have hpart : p.toNat * (c.escWMax - c.escWMin) / 255 ≤ c.escWMax - c.escWMin := scaled_le _ (by omega)
  rw [escWidth, BitVec.toNat_ofNat, Nat.mod_eq_of_lt (by omega)]

/-- MOT.RECOMP with every power written. -/
theorem exec_motRecomp_of_set (hfree : s.blocked = .none) (h0 : s.mot0.powerSet = true)
    (h1 : s.mot1.powerSet = true) (he : s.esc.escpowerSet = true) :
    exec .motRecomp s = .next { s with
      mot0 := s.mot0.recomp s.cfg
      mot1 := s.mot1.recomp s.cfg
      esc := { s.esc with escwidth := escWidth s.cfg s.esc.escpower, escwidthSet := true } } := by
  refine (hostOp_of_free hfree).trans ?_
  rw [if_neg (by simp [h0]), if_neg (by simp [h1]), if_neg (by simp [he])]

/-- MOT.RECOMP with a power not yet written (F13). -/
theorem exec_motRecomp_of_unset (hfree : s.blocked = .none)
    (h : s.mot0.powerSet = false ∨ s.mot1.powerSet = false ∨ s.esc.escpowerSet = false) :
    ∃ r, exec .motRecomp s = .refused r := by
  change ∃ r, execMotRecomp s = .refused r
  rw [execMotRecomp, hostOp_of_free hfree]
  by_cases h0 : s.mot0.powerSet = false
  · exact ⟨_, if_pos h0⟩
  by_cases h1 : s.mot1.powerSet = false
  · exact ⟨_, (if_neg h0).trans (if_pos h1)⟩
  · have he : s.esc.escpowerSet = false := (h.resolve_left h0).resolve_left h1
    exact ⟨_, (if_neg h0).trans ((if_neg h1).trans (if_pos he))⟩

/-! The handlers. -/

/-- The state after the on body (R200): the pins by the margin class and the sign of the live power. -/
def driveOn (m : MotorId) (s : State) : State :=
  if fullyOff s.cfg (s.motor m).power then s
  else driveMotor m (isPos (s.motor m).power) (!isPos (s.motor m).power) s

/-- The state after the off body (R201). -/
def driveOff (m : MotorId) (s : State) : State :=
  if fullyOn s.cfg (s.motor m).power then s else driveMotor m true true s

/-- The on body reads one power and answers. -/
theorem onBody_of_set {m : MotorId} (h : (s.motor m).powerSet = true) : onBody m s = .next (driveOn m s) := by
  unfold onBody driveOn
  rw [if_neg (by simp [h])]
  split
  · rfl
  · cases isPos (s.motor m).power <;> rfl

/-- The off body reads one power and answers. -/
theorem offBody_of_set {m : MotorId} (h : (s.motor m).powerSet = true) : offBody m s = .next (driveOff m s) := by
  unfold offBody driveOff
  rw [if_neg (by simp [h])]
  split <;> rfl

/-- The assert body, by the shutdown flag (R205). -/
theorem assertBody_of_set (h : s.esc.escshutSet = true) :
    assertBody s = .next (if s.esc.escshut then s else driveEsc true s) := by
  unfold assertBody
  rw [if_neg (by simp [h])]
  split <;> rfl

@[simp] theorem driveOn_powerSet (m k : MotorId) : ((driveOn m s).motor k).powerSet = (s.motor k).powerSet := by
  unfold driveOn
  split <;> simp

/-- The overflow body is the on body of each motor in turn (R202). -/
theorem ovfBody_of_set (h : ∀ m, (s.motor m).powerSet = true) : ovfBody s = .next (driveOn .m1 (driveOn .m0 s)) := by
  rw [ovfBody, onBody_of_set (h .m0)]
  exact onBody_of_set (by rw [driveOn_powerSet]; exact h .m1)

/-- Both pins and their trace entry are written in one step (R199). -/
theorem driveMotor_eq (m : MotorId) (a b : Bool) (s : State) : driveMotor m a b s =
    { s.setMotor m { s.motor m with pinA := a, pinB := b, pinsSet := true } with
      pinlog := s.pinlog ++ [.motor m a b] } := by cases m <;> rfl

/-- The margin classes and the sign, by the value of the power (R194, R195). -/
theorem driveOn_eq (m : MotorId) (s : State) : driveOn m s =
    if min (s.motor m).power.toInt.natAbs 255 < s.cfg.motMargin then s
    else if 0 < (s.motor m).power.toInt then driveMotor m true false s else driveMotor m false true s := by
  unfold driveOn fullyOff mag isPos
  by_cases hpos : 0 < (s.motor m).power.toInt <;> simp [hpos]

theorem driveOff_eq (hv : s.cfg.Valid) (m : MotorId) : driveOff m s =
    if 255 < min (s.motor m).power.toInt.natAbs 255 + s.cfg.motMargin then s else driveMotor m true true s := by
  obtain ⟨-, -, -, -, -, -, ⟨-, hmargin⟩, -⟩ := hv
  have hclass : 255 - s.cfg.motMargin < min (s.motor m).power.toInt.natAbs 255 ↔
      255 < min (s.motor m).power.toInt.natAbs 255 + s.cfg.motMargin := by omega
  simp only [driveOff, fullyOn, mag, decide_eq_true_eq, hclass]

/-- A due operation of an enabled source runs at once. -/
theorem due_enabled {op : TimerOp} (h : s.irq.en (op.source s.cfg.motVariant) = true) : due op s = runTimerOp op s :=
  deliver_enabled h

theorem due_disabled {op : TimerOp} (h : s.irq.en (op.source s.cfg.motVariant) = false) :
    due op s = .next { s with irq := s.irq.hold (op.source s.cfg.motVariant) op } :=
  deliver_disabled h

/-! The handler operations as operations. -/

/-- An on operation that a source can hold is of variant A. -/
theorem variant_of_motOn_mem {v : MotVariant} {m : MotorId}
    (h : .motOn m ∈ heldOps v (TimerOp.source v (.motOn m))) : v = .a := by
  cases v with
  | a => rfl
  | b => cases m <;> simp [heldOps, TimerOp.source] at h

/-- An overflow operation that a source can hold is of variant B. -/
theorem variant_of_motOvf_mem {v : MotVariant} (h : .motOvf ∈ heldOps v (TimerOp.source v .motOvf)) : v = .b := by
  cases v with
  | a => simp [heldOps, TimerOp.source] at h
  | b => rfl

/-- A handler operation that the variant has, performed as an operation, falls due. -/
theorem exec_timerOp {op : TimerOp} (hop : op ∈ heldOps s.cfg.motVariant (op.source s.cfg.motVariant)) :
    exec op.instr s = due op s := by
  cases op with
  | motOn m => exact if_pos (variant_of_motOn_mem hop)
  | motOvf => exact if_pos (variant_of_motOvf_mem hop)
  | motOff | escAssert | escDeassert => rfl

/-- What falls due under a condition is the run of that operation, or of none. -/
theorem dueIf_eq_runOps {op : TimerOp} (hop : op ∈ heldOps s.cfg.motVariant (op.source s.cfg.motVariant))
    (p : Prop) [Decidable p] : dueIf (decide p) op s = runOps (if p then [op.instr] else []) s := by
  by_cases hp : p
  · rw [if_pos hp, decide_eq_true hp]
    change due op s = andThen (exec op.instr s) (runOps [])
    rw [exec_timerOp hop]
    cases due op s <;> rfl
  · rw [if_neg hp, decide_eq_false hp]
    rfl

/-! What a tick reads besides the counters stays as it was while operations fall due. -/

/-- The values latched by MOT.RECOMP are as they were (`10_state.md` R42, R43). -/
def SameLatched (s t : State) : Prop :=
  (∀ m, (t.motor m).offthrSet = (s.motor m).offthrSet ∧ (t.motor m).offthr = (s.motor m).offthr) ∧
  t.esc.escwidthSet = s.esc.escwidthSet ∧ t.esc.escwidth = s.esc.escwidth

theorem due_sameLatched {op : TimerOp} (h : due op s = .next t) : SameLatched s t := by
  obtain ⟨-, hmot, hesc⟩ | ⟨-, rfl⟩ := due_pins_or_hold h
  · exact ⟨fun m => by rw [hmot m]; exact ⟨rfl, rfl⟩, by rw [hesc], by rw [hesc]⟩
  · exact ⟨fun m => ⟨rfl, rfl⟩, rfl, rfl⟩

theorem dueIf_sameLatched {b : Bool} {op : TimerOp} (h : dueIf b op s = .next t) : SameLatched s t := by
  obtain ⟨-, rfl⟩ | ⟨-, h⟩ := dueIf_next h
  · exact ⟨fun _ => ⟨rfl, rfl⟩, rfl, rfl⟩
  · exact due_sameLatched h

theorem SameLatched.trans {u : State} (h : SameLatched s t) (k : SameLatched t u) : SameLatched s u := by
  obtain ⟨hmot, hset, hwidth⟩ := h
  obtain ⟨kmot, kset, kwidth⟩ := k
  exact ⟨fun m => ⟨(kmot m).1.trans (hmot m).1, (kmot m).2.trans (hmot m).2⟩, kset.trans hset, kwidth.trans hwidth⟩

/-- The compare of a motor looks at its latched threshold only. -/
theorem meetsOff_eq (h : SameLatched s t) (m : MotorId) (n : Nat) :
    meetsOff m n t = decide ((s.motor m).offthrSet = true ∧ n = (s.motor m).offthr.toNat) := by
  obtain ⟨hmot, -⟩ := h
  obtain ⟨hset, hval⟩ := hmot m
  rw [meetsOff, hset, hval, Bool.decide_and, Bool.decide_eq_true]

/-- The first of the operations that may fall due on a tick, and the rest, which see what it leaves. -/
theorem andThen_dueIf_eq_runOps {op : TimerOp} {p : Prop} [Decidable p] {k : State → Out} {is : List Instr}
    (hop : op ∈ heldOps s.cfg.motVariant (op.source s.cfg.motVariant))
    (hk : ∀ v, SameLatched s v → k v = runOps is v) :
    andThen (dueIf (decide p) op s) k = runOps ((if p then [op.instr] else []) ++ is) s := by
  rw [runOps_append, ← dueIf_eq_runOps hop]
  exact andThen_congr fun v hv => hk v (dueIf_sameLatched hv)

/-! One tick of each timer (R210), in the script's order (R211). -/

theorem tickEsc_eq_runOps {u : State} {n : Nat} (hn : n = nextCount s.tmr.esccnt s.cfg.escFrame)
    (hu : u = { s with tmr := { s.tmr with esccnt := BitVec.ofNat 16 n } }) :
    tickEsc s = runOps ((if n = 0 then [.escAssert] else []) ++
      (if s.esc.escwidthSet = true ∧ n = s.esc.escwidth.toNat then [.escDeassert] else [])) u := by
  subst hn hu
  refine andThen_dueIf_eq_runOps (op := .escAssert) (escAssert_mem_heldOps _) fun v hv => ?_
  obtain ⟨-, hset, hwidth⟩ := hv
  rw [hset, hwidth]
  refine Eq.trans ?_ (dueIf_eq_runOps (op := .escDeassert) (escDeassert_mem_heldOps _) _)
  rw [Bool.decide_and, Bool.decide_eq_true]

theorem tickShared_eq_runOps {u : State} {n : Nat} (hb : s.cfg.motVariant = .b)
    (hn : n = nextCount s.tmr.tcnt0 Config.motTopB)
    (hu : u = { s with tmr := { s.tmr with tcnt0 := BitVec.ofNat 16 n } }) :
    tickShared s = runOps ((if n = 0 then [.motOvf] else []) ++
      (if s.mot0.offthrSet = true ∧ n = s.mot0.offthr.toNat then [.motOff .m0] else []) ++
      (if s.mot1.offthrSet = true ∧ n = s.mot1.offthr.toNat then [.motOff .m1] else [])) u := by
  subst hn hu
  rw [List.append_assoc]
  refine andThen_dueIf_eq_runOps (op := .motOvf) (motOvf_mem_heldOps hb) fun v hv => ?_
  rw [meetsOff_eq hv]
  refine andThen_dueIf_eq_runOps (motOff_mem_heldOps _ .m0) fun w hw => ?_
  rw [meetsOff_eq (hv.trans hw)]
  exact dueIf_eq_runOps (motOff_mem_heldOps _ .m1) _

theorem tickBrushed_eq_runOps {u : State} {m : MotorId} {n : Nat} (ha : s.cfg.motVariant = .a)
    (hn : n = nextCount (s.tmr.tcnt m) s.cfg.motTopA)
    (hu : u = { s with tmr := s.tmr.setTcnt m (BitVec.ofNat 16 n) }) :
    tickBrushed m s = runOps ((if n = 0 then [.motOn m] else []) ++
      (if (s.motor m).offthrSet = true ∧ n = (s.motor m).offthr.toNat then [.motOff m] else [])) u := by
  subst hn hu
  refine andThen_dueIf_eq_runOps (op := .motOn m) (motOn_mem_heldOps ha m) fun v hv => ?_
  rw [meetsOff_eq hv]
  exact dueIf_eq_runOps (motOff_mem_heldOps _ m) _

/-- The timers by their numbers (`30_encoding.md` R116). -/
theorem exec_tmrTick_shared (hb : s.cfg.motVariant = .b) : exec (.tmrTick 0#2) s = tickShared s := by
  change execTmrTick 0#2 s = _
  simp [execTmrTick, hb]

theorem exec_tmrTick_brushed (ha : s.cfg.motVariant = .a) {m : MotorId} {k : BitVec 2}
    (h : (m, k) ∈ [(MotorId.m0, 0#2), (.m1, 1#2)]) : exec (.tmrTick k) s = tickBrushed m s := by
  change execTmrTick k s = _
  simp only [List.mem_cons, Prod.mk.injEq, List.not_mem_nil, or_false] at h
  obtain ⟨rfl, rfl⟩ | ⟨rfl, rfl⟩ := h <;> simp [execTmrTick, ha]

/-! A tick completes when the values its handlers read are specified. -/

/-- What the timers' handlers read is specified (`70_reset_and_hazards.md` R302). -/
def HandlersReady (s : State) : Prop := s.esc.escshutSet = true ∧ ∀ m, (s.motor m).powerSet = true

theorem PinsOnly.handlersReady (h : PinsOnly s t) (hs : HandlersReady s) : HandlersReady t := by
  obtain ⟨-, hmot, hesc⟩ := h
  obtain ⟨hshut, hpower⟩ := hs
  exact ⟨by rw [hesc]; exact hshut, fun m => by rw [hmot m]; exact hpower m⟩

theorem due_handlersReady {op : TimerOp} (h : due op s = .next t) (hs : HandlersReady s) : HandlersReady t := by
  obtain hpins | ⟨-, rfl⟩ := due_pins_or_hold h
  · exact hpins.handlersReady hs
  · exact hs

/-- Every handler the variant has answers. -/
theorem HandlersReady.runTimerOp_answers {op : TimerOp} (hs : HandlersReady s)
    (hop : op ∈ heldOps s.cfg.motVariant (op.source s.cfg.motVariant)) : ∃ t, runTimerOp op s = .next t := by
  obtain ⟨hshut, hpower⟩ := hs
  cases op with
  | motOn m => exact ⟨_, (if_pos (variant_of_motOn_mem hop)).trans (onBody_of_set (hpower m))⟩
  | motOff m => exact ⟨_, offBody_of_set (hpower m)⟩
  | motOvf => exact ⟨_, (if_pos (variant_of_motOvf_mem hop)).trans (ovfBody_of_set hpower)⟩
  | escAssert => exact ⟨_, assertBody_of_set hshut⟩
  | escDeassert => exact ⟨_, rfl⟩

/-- What falls due under a condition is run, held or left out. -/
theorem HandlersReady.dueIf_answers {op : TimerOp} (hs : HandlersReady s)
    (hop : op ∈ heldOps s.cfg.motVariant (op.source s.cfg.motVariant)) (b : Bool) :
    ∃ t, dueIf b op s = .next t := by
  cases b with
  | false => exact ⟨s, rfl⟩
  | true =>
    cases hen : s.irq.en (op.source s.cfg.motVariant) with
    | true =>
      obtain ⟨t, ht⟩ := hs.runTimerOp_answers hop
      exact ⟨t, (due_enabled hen).trans ht⟩
    | false => exact ⟨_, due_disabled hen⟩

/-- After an operation of a tick the handlers of the rest are ready again. -/
theorem HandlersReady.andThen_dueIf_answers {op : TimerOp} {b : Bool} {k : State → Out} (hs : HandlersReady s)
    (hop : op ∈ heldOps s.cfg.motVariant (op.source s.cfg.motVariant))
    (hk : ∀ u, HandlersReady u → ∃ t, k u = .next t) : ∃ t, andThen (dueIf b op s) k = .next t := by
  obtain ⟨u, hu⟩ := hs.dueIf_answers hop b
  have hready : HandlersReady u := by
    obtain ⟨-, rfl⟩ | ⟨-, hdue⟩ := dueIf_next hu
    · exact hs
    · exact due_handlersReady hdue hs
  obtain ⟨t, ht⟩ := hk u hready
  exact ⟨t, andThen_eq_next.mpr ⟨u, hu, ht⟩⟩

theorem HandlersReady.tickEsc_answers (hs : HandlersReady s) : ∃ t, tickEsc s = .next t :=
  HandlersReady.andThen_dueIf_answers (s := { s with tmr := _ }) hs (escAssert_mem_heldOps _) fun _ hu =>
    hu.dueIf_answers (escDeassert_mem_heldOps _) _

theorem HandlersReady.tickShared_answers (hs : HandlersReady s) (hb : s.cfg.motVariant = .b) :
    ∃ t, tickShared s = .next t :=
  HandlersReady.andThen_dueIf_answers (s := { s with tmr := _ }) hs (motOvf_mem_heldOps hb) fun _ hu =>
    hu.andThen_dueIf_answers (motOff_mem_heldOps _ .m0) fun _ hw => hw.dueIf_answers (motOff_mem_heldOps _ .m1) _

theorem HandlersReady.tickBrushed_answers (hs : HandlersReady s) (ha : s.cfg.motVariant = .a) (m : MotorId) :
    ∃ t, tickBrushed m s = .next t :=
  HandlersReady.andThen_dueIf_answers (s := { s with tmr := _ }) hs (motOn_mem_heldOps ha m) fun _ hu =>
    hu.dueIf_answers (motOff_mem_heldOps _ m) _

/-! The extreme powers (R213, R214). -/

/-- A power, and the pins that no handler toggles at that power. -/
def SteadyPins (p : Int) (a b : Bool) : Prop :=
  (p, a, b) ∈ [((0 : Int), true, true), (255, true, false), (-255, false, true)]

/-- The motor has this power and these levels on its pins. -/
def Motor.Holds (v : Motor) (p : Int) (a b : Bool) : Prop := v.power.toInt = p ∧ v.pinA = a ∧ v.pinB = b

variable {k : MotorId} {p : Int} {a b : Bool}

/-- A steady motor that is not fully off is driven by the on body as its pins are. -/
theorem SteadyPins.on {c : Config} {w : Word16} (hv : c.Valid) (hp : SteadyPins w.toInt a b)
    (hoff : fullyOff c w = false) : isPos w = a ∧ (!isPos w) = b := by
  obtain ⟨-, -, -, -, -, -, ⟨hmin, -⟩, -⟩ := hv
  simp only [SteadyPins, List.mem_cons, Prod.mk.injEq, List.not_mem_nil, or_false] at hp
  have hoff : ¬ min w.toInt.natAbs 255 < c.motMargin := of_decide_eq_false hoff
  obtain ⟨hw, -⟩ | ⟨hw, rfl, rfl⟩ | ⟨hw, rfl, rfl⟩ := hp
  · rw [hw] at hoff
    exact absurd hmin (by simpa using hoff)
  · simp [isPos, hw]
  · simp [isPos, hw]

/-- A steady motor that is not fully on is braked, as the off body brakes it. -/
theorem SteadyPins.off {c : Config} {w : Word16} (hv : c.Valid) (hp : SteadyPins w.toInt a b)
    (hon : fullyOn c w = false) : true = a ∧ true = b := by
  obtain ⟨-, -, -, -, -, -, ⟨hmin, -⟩, -⟩ := hv
  simp only [SteadyPins, List.mem_cons, Prod.mk.injEq, List.not_mem_nil, or_false] at hp
  have hon : ¬ 255 - c.motMargin < min w.toInt.natAbs 255 := of_decide_eq_false hon
  obtain ⟨-, rfl, rfl⟩ | ⟨hw, -⟩ | ⟨hw, -⟩ := hp
  · exact ⟨rfl, rfl⟩
  · rw [hw] at hon; omega
  · rw [hw] at hon; omega

/-- Driving a motor as its pins are, or driving another one, keeps its pins. -/
theorem Motor.Holds.drive {m : MotorId} {x y : Bool} (h : (s.motor k).Holds p a b)
    (hxy : k = m → x = a ∧ y = b) : ((driveMotor m x y s).motor k).Holds p a b := by
  obtain ⟨hpower, hpins⟩ := h
  by_cases hk : k = m
  · subst hk
    rw [driveMotor_motor]
    exact ⟨hpower, hxy rfl⟩
  · rw [driveMotor_motor_other s hk]
    exact ⟨hpower, hpins⟩

theorem onBody_keeps_steady {m : MotorId} (hv : s.cfg.Valid) (hp : SteadyPins p a b) (h : onBody m s = .next t)
    (hs : (s.motor k).Holds p a b) : (t.motor k).Holds p a b := by
  obtain ⟨-, ⟨-, rfl⟩ | ⟨hoff, rfl⟩⟩ := onBody_next h
  · exact hs
  · refine hs.drive fun hk => ?_
    subst hk
    obtain ⟨rfl, -⟩ := hs
    exact hp.on hv hoff

theorem offBody_keeps_steady {m : MotorId} (hv : s.cfg.Valid) (hp : SteadyPins p a b) (h : offBody m s = .next t)
    (hs : (s.motor k).Holds p a b) : (t.motor k).Holds p a b := by
  obtain ⟨-, ⟨-, rfl⟩ | ⟨hon, rfl⟩⟩ := offBody_next h
  · exact hs
  · refine hs.drive fun hk => ?_
    subst hk
    obtain ⟨rfl, -⟩ := hs
    exact hp.off hv hon

/-- No handler toggles steady pins. -/
theorem runTimerOp_keeps_steady {op : TimerOp} (hv : s.cfg.Valid) (hp : SteadyPins p a b)
    (h : runTimerOp op s = .next t) (hs : (s.motor k).Holds p a b) : (t.motor k).Holds p a b := by
  cases op with
  | motOn m =>
    simp only [runTimerOp] at h
    split at h
    · exact onBody_keeps_steady hv hp h hs
    · cases h
  | motOff m => exact offBody_keeps_steady hv hp h hs
  | motOvf =>
    simp only [runTimerOp] at h
    split at h
    · obtain ⟨u, h0, h1⟩ := andThen_eq_next.mp h
      obtain ⟨hstate, -⟩ := onBody_pins h0
      have hvu : u.cfg.Valid := by rw [hstate]; exact hv
      exact onBody_keeps_steady hvu hp h1 (onBody_keeps_steady hv hp h0 hs)
    · cases h
  | escAssert =>
    obtain ⟨-, ⟨-, rfl⟩ | ⟨-, rfl⟩⟩ := assertBody_next h
    · exact hs
    · cases k <;> exact hs
  | escDeassert =>
    obtain rfl := Host.Outcome.next.inj h
    cases k <;> exact hs

theorem runTimerOps_keeps_steady {ops : List TimerOp} (hv : s.cfg.Valid) (hp : SteadyPins p a b)
    (h : runTimerOps ops s = .next t) (hs : (s.motor k).Holds p a b) : (t.motor k).Holds p a b := by
  induction ops generalizing s with
  | nil => obtain rfl := Host.Outcome.next.inj h; exact hs
  | cons op rest ih =>
    obtain ⟨u, h0, h1⟩ := andThen_eq_next.mp h
    obtain ⟨hstate, -⟩ := runTimerOp_pins h0
    exact ih (by rw [hstate]; exact hv) h1 (runTimerOp_keeps_steady hv hp h0 hs)

theorem due_keeps_steady {op : TimerOp} (hv : s.cfg.Valid) (hp : SteadyPins p a b) (h : due op s = .next t)
    (hs : (s.motor k).Holds p a b) : (t.motor k).Holds p a b := by
  obtain ⟨-, h⟩ | ⟨-, rfl⟩ := due_next h
  · exact runTimerOp_keeps_steady hv hp h hs
  · exact hs

theorem DueRun.keeps_steady (h : DueRun s t) (hv : s.cfg.Valid) (hp : SteadyPins p a b)
    (hs : (s.motor k).Holds p a b) : (t.motor k).Holds p a b := by
  have hboth : t.cfg.Valid ∧ (t.motor k).Holds p a b := by
    refine h.keeps (P := fun u => u.cfg.Valid ∧ (u.motor k).Holds p a b) ?_ ⟨hv, hs⟩
    rintro op u w - hd ⟨hvu, hu⟩
    exact ⟨by rw [due_cfg hd]; exact hvu, due_keeps_steady hvu hp hd hu⟩
  exact hboth.2

/-- What IRQ.ENABLE serves toggles no steady pins. -/
theorem serveSource_keeps_steady {src : Source} (hv : s.cfg.Valid) (hp : SteadyPins p a b)
    (h : serveSource src s = .next t) (hs : (s.motor k).Holds p a b) : (t.motor k).Holds p a b := by
  have timer (hsrc : src = .brushed0 ∨ src = .brushed1 ∨ src = .esc) : (t.motor k).Holds p a b := by
    obtain ⟨u, hrun, -, rfl⟩ := serveSource_timer_next hsrc h
    have hu : (u.motor k).Holds p a b := runTimerOps_keeps_steady hv hp hrun hs
    exact hu
  cases src with
  | bus => obtain ⟨hstate, -⟩ := servePending_frame h; rw [hstate]; exact hs
  | sampler => rw [serveSource_sampler_next h]; exact hs
  | display => rw [serveSource_display_next h]; exact hs
  | brushed0 | brushed1 | esc => exact timer (by simp)

/-- No operation toggles steady pins; the host may write the power, which drives no pin. -/
theorem exec_keeps_steady {i : Instr} (hv : s.cfg.Valid) (hp : SteadyPins p a b) (h : exec i s = .next t)
    (hs : (s.motor k).Holds p a b) : (t.motor k).pinA = a ∧ (t.motor k).pinB = b := by
  cases hi : mayDrivePins i with
  | false =>
    obtain ⟨-, -, -, hsame⟩ := exec_samePins hi h
    obtain ⟨hA, hB, -⟩ := hsame k
    obtain ⟨-, hpinA, hpinB⟩ := hs
    exact ⟨hA.trans hpinA, hB.trans hpinB⟩
  | true =>
    suffices hkept : (t.motor k).Holds p a b from hkept.2
    cases hh : isHostOp i with
    | false =>
      obtain ⟨r, -, hrun⟩ := exec_timerEvent_next hi hh h
      exact hrun.keeps_steady hv hp hs
    | true =>
      cases i with
      | irqEnable source =>
        obtain ⟨-, src, -, h⟩ := execIrqEnable_next h
        exact serveSource_keeps_steady (s := { s with irq := s.irq.setEn src true }) hv hp h hs
      | motOn | motOff | motOvf | escAssert | escDeassert | tmrTick => cases hh
      | _ => cases hi

/-! The statements. -/

/-- Settles O44. -/
theorem motorCommandsStore : Obligations.MotorCommandsStore := by
  intro s hfree
  refine ⟨fun m p => ⟨_, toInt_ofInt_clamp _, hostOp_of_free hfree⟩, fun p => hostOp_of_free hfree,
    fun f => hostOp_of_free hfree, fun m b => ?_, fun m b => ?_⟩
  · exact ⟨_, toNat_set_low_byte _ b, hostOp_of_free hfree⟩
  · exact ⟨_, toNat_set_high_byte _ b, hostOp_of_free hfree⟩

/-- Settles O45: the recomputed values fit their words, and the three checks are those of the powers. -/
theorem recomputeThresholds : Obligations.RecomputeThresholds := by
  intro s hv hfree
  refine ⟨fun h0 h1 he => ?_, exec_motRecomp_of_unset hfree⟩
  refine ⟨offThreshold s.cfg s.mot0.power, offThreshold s.cfg s.mot1.power, escWidth s.cfg s.esc.escpower,
    fun ha => ?_, fun hb => ?_, toNat_escWidth hv _, exec_motRecomp_of_set hfree h0 h1 he⟩
  · exact ⟨toNat_offThreshold_a hv ha _, toNat_offThreshold_a hv ha _⟩
  · exact ⟨toNat_offThreshold_b hb _, toNat_offThreshold_b hb _⟩

/-- Settles O46: what the statement calls `drive` and `on` are the model's write of the pins and its on body. -/
theorem brushedHandlersDrivePins : Obligations.BrushedHandlersDrivePins := by
  intro s drive on hv hdrive hon
  obtain rfl : drive = driveMotor := by
    funext m a b u
    rw [hdrive, driveMotor_eq]
  obtain rfl : on = driveOn := by
    funext m u
    rw [hon, driveOn_eq]
  refine ⟨fun m ha hen hset => ?_, fun m hen hset => ?_, fun hb hen h0 h1 => ?_⟩
  · rw [← ha] at hen
    refine (if_pos ha).trans ((due_enabled hen).trans ((if_pos ha).trans ?_))
    exact onBody_of_set hset
  · rw [← driveOff_eq hv]
    exact (due_enabled hen).trans (offBody_of_set hset)
  · have hen : s.irq.en (TimerOp.motOvf.source s.cfg.motVariant) = true := hen
    refine (if_pos hb).trans ((due_enabled hen).trans ((if_pos hb).trans ?_))
    exact ovfBody_of_set (forall_motorId.mpr ⟨h0, h1⟩)

/-- Settles O47, by the cases of the assert body. -/
theorem escHandlersDrivePin : Obligations.EscHandlersDrivePin := by
  intro s hen
  have hassert : exec .escAssert s = assertBody s := due_enabled hen
  refine ⟨fun hset hclear => ?_, fun hset hshut => ?_, fun hunset => ?_, due_enabled hen⟩
  · rw [hassert, assertBody_of_set hset, hclear]; rfl
  · rw [hassert, assertBody_of_set hset, hshut]; rfl
  · rw [hassert]; exact if_pos hunset

/-- Settles O49: each tick is the run of what its count meets, and completes since every handler it may run is
ready. -/
theorem timerTickMakesDue : Obligations.TimerTickMakesDue := by
  refine ⟨fun s _ hshut h0 h1 => ?_, fun s u n => tickEsc_eq_runOps, fun s u n hb hn hu => ?_,
    fun s u n m k ha hk hn hu => ?_⟩
  · have hready : HandlersReady s := ⟨hshut, forall_motorId.mpr ⟨h0, h1⟩⟩
    refine ⟨?_, hready.tickEsc_answers, fun ha => ?_⟩
    · cases hvariant : s.cfg.motVariant with
      | a => rw [exec_tmrTick_brushed hvariant (m := .m0) (by simp)]; exact hready.tickBrushed_answers hvariant .m0
      | b => rw [exec_tmrTick_shared hvariant]; exact hready.tickShared_answers hvariant
    · rw [exec_tmrTick_brushed ha (m := .m1) (by simp)]; exact hready.tickBrushed_answers ha .m1
  · rw [exec_tmrTick_shared hb]; exact tickShared_eq_runOps hb hn hu
  · rw [exec_tmrTick_brushed ha hk]; exact tickBrushed_eq_runOps ha hn hu

/-- Settles O50: the three pairs of a power and its pins are the steady ones. -/
theorem extremePowersNeverToggle : Obligations.ExtremePowersNeverToggle := by
  intro i s t m hv h
  refine ⟨fun hp hA hB => ?_, fun hp hA hB => ?_, fun hp hA hB => ?_⟩ <;>
    exact exec_keeps_steady hv (by simp [SteadyPins]) h ⟨hp, hA, hB⟩

end Sys2Proof.Machine

/-!
The orientation filter (`43_orientation_filter.md`): an update of the filter (R231 to R233), the operations that leave
it as it was (R235), and a sign held over a run of updates (R238).
-/

namespace Sys2Proof.Machine

variable {s t : State} {c : Config} {o : Ori} {r f : Sign} {x y z : Word16} {k : Nat}

/-! One update of the filter. -/

@[simp] theorem Ori.update_oriraw (c : Config) (o : Ori) (x y z : Word16) :
    (o.update c x y z).oriraw = rawSign (downnessOf c x.toInt y.toInt z.toInt) := rfl

@[simp] theorem Ori.update_oricnt (c : Config) (o : Ori) (x y z : Word16) :
    (o.update c x y z).oricnt = o.nextCnt c (o.update c x y z).oriraw := rfl

@[simp] theorem Ori.update_orifilt (c : Config) (o : Ori) (x y z : Word16) :
    (o.update c x y z).orifilt =
      if c.oriTimeout - 1 ≤ (o.update c x y z).oricnt then (o.update c x y z).oriraw else o.orifilt := rfl

theorem Ori.nextCnt_of_same (h : o.oriraw = r) : o.nextCnt c r = min (o.oricnt + 1) (c.oriTimeout - 1) :=
  if_pos h.symm

theorem Ori.nextCnt_of_other (h : o.oriraw ≠ r) : o.nextCnt c r = 0 := if_neg h.symm

theorem Ori.nextCnt_le (c : Config) (o : Ori) (r : Sign) : o.nextCnt c r ≤ c.oriTimeout - 1 := by
  by_cases h : o.oriraw = r
  · rw [nextCnt_of_same h]; exact Nat.min_le_right _ _
  · rw [nextCnt_of_other h]; exact Nat.zero_le _

/-- Truncating divisions by two naturals are one by their product. -/
theorem tdiv_tdiv_natCast (a : Int) (m n : Nat) : (a.tdiv m).tdiv n = a.tdiv (m * n) := by
  have hnat (k : Nat) : ((k : Int).tdiv m).tdiv n = (k : Int).tdiv (m * n) := by
    norm_cast
    exact congrArg _ (Nat.div_div_eq_div_mul k m n)
  obtain ⟨k, rfl | rfl⟩ := a.eq_nat_or_neg
  · exact hnat k
  · simp only [Int.neg_tdiv, hnat]

/-- The scaling of the dot product, written as one division (R231). -/
theorem downnessOf_eq_tdiv (c : Config) (x y z : Int) :
    downnessOf c x y z = (x * c.oriRefX + y * c.oriRefY + z * c.oriRefZ).tdiv (16 * c.oriDotDiv) := by
  rw [Int.mul_comm 16]
  exact tdiv_tdiv_natCast _ c.oriDotDiv 16

theorem Sign.val_injective : Function.Injective Sign.val := by
  intro a b
  cases a <;> cases b <;> simp [Sign.val]

/-- The sign with the dead zone, as a number (R232). -/
theorem rawSign_val (d : Int) : (rawSign d).val = if d ≤ -2 then -1 else if 2 ≤ d then 1 else 0 := by
  unfold rawSign Config.oriDeadzone
  split_ifs <;> rfl

theorem exec_oriUpdate (xl xh yl yh zl zh : Byte) (hfree : s.blocked = .none) :
    exec (.oriUpdate xl xh yl yh zl zh) s =
      .next { s with ori := s.ori.update s.cfg (wordOf xl xh) (wordOf yl yh) (wordOf zl zh) } :=
  hostOp_of_free hfree

/-! What an operation does to the filter. -/

theorem due_ori {op : TimerOp} (h : due op s = .next t) : t.ori = s.ori := by
  obtain ⟨hstate, -, -⟩ | ⟨-, rfl⟩ := due_pins_or_hold h
  · rw [hstate]
  · rfl

theorem Served.ori {src : Source} (h : Served s src t) : t.ori = s.ori := by
  cases h with
  | bus h _ => rw [h]
  | sampler h => rw [h]
  | display h => rw [h]
  | timer _ hu => obtain ⟨hstate, -, -⟩ := hu; rw [hstate]

/-- The filter is as it was, or the operation is the ORI.UPDATE that updates it (R235). -/
def OriMove (i : Instr) (s t : State) : Prop :=
  t.ori = s.ori ∨ ∃ xl xh yl yh zl zh, i = .oriUpdate xl xh yl yh zl zh ∧
    t.ori = s.ori.update s.cfg (wordOf xl xh) (wordOf yl yh) (wordOf zl zh)

theorem exec_sensing_ori {i : Instr} (hb : isBusOp i = false) (hm : isMotorCommand i = false)
    (hp : mayDrivePins i = false) (h : exec i s = .next t) : OriMove i s t := by
  cases i with
  | oriUpdate =>
    obtain rfl := Host.Outcome.next.inj (hostOp_eq_next.mp h).2
    exact .inr ⟨_, _, _, _, _, _, rfl, rfl⟩
  | oriSign => obtain rfl := oriSign_gives h; exact .inl rfl
  | pdTick => obtain ⟨_, rfl, ⟨-, rfl⟩ | ⟨-, rfl⟩⟩ := execPdTick_next h <;> exact .inl rfl
  | pdRead => obtain ⟨_, rfl⟩ := execPdRead_next h; exact .inl rfl
  | pdReadshut => obtain rfl := pdReadshut_gives rfl h; exact .inl rfl
  | schDtick => obtain ⟨-, rfl⟩ | ⟨-, rfl⟩ := execSchDtick_next h <;> exact .inl rfl
  | irqDisable => obtain ⟨_, -, rfl⟩ := execIrqDisable_next h; exact .inl rfl
  | schTake => obtain rfl | rfl := execSchTake_next h <;> exact .inl (by simp)
  | _ => simp [isBusOp, isMotorCommand, mayDrivePins] at hb hm hp

theorem exec_ori {i : Instr} (h : exec i s = .next t) : OriMove i s t := by
  obtain hb | hm | ⟨k, rfl⟩ | ⟨hp, hh⟩ | ⟨hb, hm, hp⟩ := instr_families i
  · exact .inl (by rw [exec_bus_frame hb h])
  · exact .inl (by rw [exec_motorCommand_frame hm h])
  · obtain ⟨src, -, hserved⟩ := execIrqEnable_served h
    exact .inl hserved.ori
  · obtain ⟨r, -, hrun⟩ := exec_timerEvent_next hp hh h
    exact .inl (hrun.keeps (P := fun u => u.ori = s.ori) (fun _ _ _ _ hd hu => (due_ori hd).trans hu) rfl)
  · exact exec_sensing_ori hb hm hp h

/-- After an update the invariant of R235 holds, whatever the filter was. -/
theorem oriInv_of_update (hc : t.cfg = c) (ho : t.ori = o.update c x y z) : OriInv t := by
  unfold OriInv
  rw [hc, ho]
  refine ⟨Ori.nextCnt_le _ _ _, fun hcnt => ?_, fun _ => rfl⟩
  rw [Ori.update_orifilt, if_pos hcnt.ge]

theorem exec_oriInv {i : Instr} (hs : OriInv s) (h : exec i s = .next t) : OriInv t := by
  obtain ho | ⟨_, _, _, _, _, _, -, ho⟩ := exec_ori h
  · exact (oriInv_congr ho (exec_cfg h)).mpr hs
  · exact oriInv_of_update (exec_cfg h) ho

/-! A sign held over a run of updates (R238). -/

/-- An ORI.UPDATE whose sample has sign `r`. -/
def UpdatesWith (c : Config) (r : Sign) (i : Instr) : Prop :=
  ∃ xl xh yl yh zl zh, i = .oriUpdate xl xh yl yh zl zh ∧
    rawSign (downnessOf c (wordOf xl xh).toInt (wordOf yl yh).toInt (wordOf zl zh).toInt) = r

/-- The filter after `k + 1` updates with sign `r`, the first of which changed the instantaneous sign, where the
filtered sign before them was `f`. -/
structure Ori.Held (c : Config) (r f : Sign) (k : Nat) (o : Ori) : Prop where
  oriraw : o.oriraw = r
  oricnt : o.oricnt = min k (c.oriTimeout - 1)
  orifilt : o.orifilt = if c.oriTimeout - 1 ≤ k then r else f

/-- A sign other than the last one starts a new run. -/
theorem Ori.Held.start (hother : o.oriraw ≠ r) (hsign : rawSign (downnessOf c x.toInt y.toInt z.toInt) = r) :
    Held c r o.orifilt 0 (o.update c x y z) where
  oriraw := hsign
  oricnt := by rw [update_oricnt, update_oriraw, hsign, nextCnt_of_other hother, Nat.zero_min]
  orifilt := by rw [update_orifilt, update_oricnt, update_oriraw, hsign, nextCnt_of_other hother]

/-- The same sign again makes the run one longer. -/
theorem Ori.Held.update (h : o.Held c r f k) (hsign : rawSign (downnessOf c x.toInt y.toInt z.toInt) = r) :
    (o.update c x y z).Held c r f (k + 1) := by
  obtain ⟨hraw, hcnt, hfilt⟩ := h
  have hnext : o.nextCnt c r = min (k + 1) (c.oriTimeout - 1) := by rw [nextCnt_of_same hraw, hcnt]; omega
  refine ⟨hsign, by rw [update_oricnt, update_oriraw, hsign, hnext], ?_⟩
  rw [update_orifilt, update_oricnt, update_oriraw, hsign, hnext, hfilt]
  by_cases hreached : c.oriTimeout - 1 ≤ k + 1
  · rw [if_pos (by omega), if_pos hreached]
  · rw [if_neg (by omega), if_neg (by omega), if_neg hreached]

/-- Before the counter reaches its bound, an update with another sign zeroes it and leaves the filtered sign as it was
before the run. -/
theorem Ori.Held.broken (h : o.Held c r f k) (hshort : k + 1 < c.oriTimeout)
    (hsign : rawSign (downnessOf c x.toInt y.toInt z.toInt) ≠ r) :
    (o.update c x y z).oricnt = 0 ∧ (o.update c x y z).orifilt = f := by
  obtain ⟨hraw, -, hfilt⟩ := h
  have hcnt : (o.update c x y z).oricnt = 0 := nextCnt_of_other (hraw.trans_ne hsign.symm)
  refine ⟨hcnt, ?_⟩
  rw [update_orifilt, hcnt, if_neg (by omega), hfilt, if_neg (by omega)]

theorem UpdatesWith.exec {i : Instr} (hi : UpdatesWith s.cfg r i) (hfree : s.blocked = .none) :
    ∃ x y z, exec i s = .next { s with ori := s.ori.update s.cfg x y z } ∧
      rawSign (downnessOf s.cfg x.toInt y.toInt z.toInt) = r := by
  obtain ⟨_, _, _, _, _, _, rfl, hsign⟩ := hi
  exact ⟨_, _, _, exec_oriUpdate _ _ _ _ _ _ hfree, hsign⟩

theorem runOps_held_continue {is : List Instr} (hfree : s.blocked = .none) (hs : s.ori.Held s.cfg r f k)
    (his : ∀ i ∈ is, UpdatesWith s.cfg r i) :
    ∃ o, runOps is s = .next { s with ori := o } ∧ o.Held s.cfg r f (k + is.length) := by
  induction is generalizing s k with
  | nil => exact ⟨s.ori, rfl, hs⟩
  | cons i rest ih =>
    obtain ⟨hi, hrest⟩ := List.forall_mem_cons.mp his
    obtain ⟨x, y, z, hexec, hsign⟩ := hi.exec hfree
    obtain ⟨o, hrun, ho⟩ := ih (s := { s with ori := s.ori.update s.cfg x y z }) hfree (hs.update hsign) hrest
    rw [Nat.add_assoc, Nat.add_comm 1] at ho
    exact ⟨o, runOps_cons_next hexec hrun, ho⟩

/-- A run of updates with one sign, the first of which changes the instantaneous sign. -/
theorem runOps_held {is : List Instr} (hfree : s.blocked = .none) (hother : s.ori.oriraw ≠ r) (hpos : 1 ≤ is.length)
    (his : ∀ i ∈ is, UpdatesWith s.cfg r i) :
    ∃ o, runOps is s = .next { s with ori := o } ∧ o.Held s.cfg r s.ori.orifilt (is.length - 1) := by
  cases is with
  | nil => cases hpos
  | cons i rest =>
    obtain ⟨hi, hrest⟩ := List.forall_mem_cons.mp his
    obtain ⟨x, y, z, hexec, hsign⟩ := hi.exec hfree
    obtain ⟨o, hrun, ho⟩ := runOps_held_continue (s := { s with ori := s.ori.update s.cfg x y z }) hfree
      (.start hother hsign) hrest
    rw [Nat.zero_add] at ho
    exact ⟨o, runOps_cons_next hexec hrun, ho⟩

/-! The statements. -/

/-- Settles O15: an operation leaves the filter as it was, or updates it, and an update establishes the invariant. -/
theorem stepKeepsOrientationInvariant : Obligations.StepKeepsOrientationInvariant :=
  fun _ _ hs h => step_keeps (fun _ _ _ hs => hs) (fun _ _ _ _ hs he => exec_oriInv hs he) hs h

/-- Settles O51: the statement's downness, sign and counter are those of the update. -/
theorem oriUpdateFilters : Obligations.OriUpdateFilters := by
  intro s xl xh yl yh zl zh d r n _ hfree hd hr hn
  rw [← downnessOf_eq_tdiv] at hd
  obtain rfl : r = rawSign d := Sign.val_injective (hr.trans (rawSign_val d).symm)
  subst hd hn
  exact exec_oriUpdate xl xh yl yh zl zh hfree

/-- Settles O52: `ORI_TIMEOUT` updates bring the counter to its bound, one update less does not, and the update with
another sign then zeroes it below the bound. -/
theorem signHeldForTimeoutFlips : Obligations.SignHeldForTimeoutFlips := by
  intro s r us sign hsign hv hfree hother hus
  obtain ⟨-, -, -, -, -, htimeout, -⟩ := r9_of_valid hv
  have hupdates : ∀ u ∈ us, UpdatesWith s.cfg r u := by
    intro u hu
    obtain ⟨⟨xl, xh, yl, yh, zl, zh, rfl⟩, hr⟩ := hus u hu
    exact ⟨xl, xh, yl, yh, zl, zh, rfl, Option.some.inj ((hsign _ _ _ _ _ _).symm.trans hr)⟩
  refine ⟨fun hlen => ?_, fun hlen hpos xl xh yl yh zl zh hne => ?_⟩
  · obtain ⟨o, hrun, ho⟩ := runOps_held hfree hother (htimeout.trans hlen) hupdates
    exact ⟨_, hrun, ho.orifilt.trans (if_pos (Nat.sub_le_sub_right hlen 1))⟩
  · obtain ⟨o, hrun, ho⟩ := runOps_held hfree hother hpos hupdates
    have hsign' := fun h => hne ((hsign _ _ _ _ _ _).trans (congrArg some h))
    have hexec := exec_oriUpdate (s := { s with ori := o }) xl xh yl yh zl zh hfree
    exact ⟨_, runOps_append_next hrun (runOps_cons_next hexec rfl), ho.broken (by omega) hsign'⟩

end Sys2Proof.Machine

/-!
The scheduler (`44_scheduler.md`): the tick counters (R251, R252), and SCH.CMD with decoded inputs as a run of its
operations (R255 to R257, R264).
-/

namespace Sys2Proof.Machine

variable {s : State}

/-! The tick counters. -/

/-- The saturated count fits its word (R251). -/
theorem toNat_satInc (v : Word16) : (satInc v).toNat = min (v.toNat + 1) 65535 := by
  rw [satInc, BitVec.toNat_ofNat, Nat.mod_eq_of_lt (by omega)]

theorem exec_schDtick_enabled (hen : s.irq.enDisplay = true) :
    exec .schDtick s = .next { s with tickn := satInc s.tickn, tickm := satInc s.tickm } :=
  if_pos hen

theorem exec_schTake_guarded (hfree : s.blocked = .none) (hen : s.irq.enDisplay = false) (k : TickCtr) :
    exec (.schTake k) s = .next (if tickThreshold s.cfg k ≤ (s.tick k).toNat
      then (s.zeroTick k).giveResult (.taken true) else s.giveResult (.taken false)) := by
  refine (hostOp_of_free hfree).trans ((if_neg (by simp [Irq.en, hen])).trans ?_)
  exact (apply_ite Host.Outcome.next _ _ _).symm

/-- SCH.TAKE with source 5 enabled is unguarded (F16). -/
theorem exec_schTake_unguarded (hfree : s.blocked = .none) (hen : s.irq.enDisplay = true) (k : TickCtr) :
    exec (.schTake k) s = .refused .unguardedTake :=
  (hostOp_of_free hfree).trans (if_pos hen)

/-! Interrupt control with nothing held. -/

@[simp] theorem setEn_setEn (q : Irq) (src : Source) (a b : Bool) : (q.setEn src a).setEn src b = q.setEn src b := by
  cases src <;> rfl

theorem setPend_nil_of_pend_nil {q : Irq} {src : Source} (h : q.pend src = []) : q.setPend src [] = q := by
  rw [← h]
  cases src <;> rfl

theorem exec_irqDisable_of_source {k : BitVec 3} {src : Source} (hfree : s.blocked = .none)
    (hk : sourceOf s.cfg.motVariant k = some src) :
    exec (.irqDisable k) s = .next { s with irq := s.irq.setEn src false } := by
  change execIrqDisable k s = _
  rw [execIrqDisable, hostOp_of_free hfree, hk]

/-- Serving a timer source that holds nothing changes nothing (R282). -/
theorem serveSource_of_pend_nil {src : Source} (hsrc : src = .brushed0 ∨ src = .brushed1 ∨ src = .esc)
    (hnil : s.irq.pend src = []) : serveSource src s = .next s := by
  have hrun : andThen (runTimerOps (s.irq.pend src) s) (fun u => .next { u with irq := u.irq.setPend src [] }) =
      .next s := by
    rw [hnil]
    change Host.Outcome.next { s with irq := s.irq.setPend src [] } = _
    rw [setPend_nil_of_pend_nil hnil]
  obtain rfl | rfl | rfl := hsrc <;> exact hrun

theorem exec_irqEnable_of_pend_nil {k : BitVec 3} {src : Source} (hfree : s.blocked = .none)
    (hk : sourceOf s.cfg.motVariant k = some src) (hsrc : src = .brushed0 ∨ src = .brushed1 ∨ src = .esc)
    (hnil : s.irq.pend src = []) :
    exec (.irqEnable k) s = .next { s with irq := s.irq.setEn src true } := by
  change execIrqEnable k s = _
  rw [execIrqEnable, hostOp_of_free hfree, hk]
  exact serveSource_of_pend_nil hsrc ((setEn_pend _ _ _ _).trans hnil)

/-! MOT.SETBG. -/

/-- The word that a power is stored as (R191). -/
def powerWord (x : Int) : Word16 := BitVec.ofInt 16 (clamp x (-255) 255)

/-- A motor after a write of its power (R191). -/
def Motor.command (x : Int) (v : Motor) : Motor :=
  { v with power := powerWord x, powerLoSet := true, powerHiSet := true }

@[simp] theorem Motor.command_powerSet (x : Int) (v : Motor) : (v.command x).powerSet = true := rfl

/-- The caller and MOT.SETB both clamp (R257, R191): the second clamp changes nothing. -/
theorem powerWord_toInt_powerWord (x : Int) : powerWord (powerWord x).toInt = powerWord x := by
  apply BitVec.eq_of_toInt_eq
  simp only [powerWord, toInt_ofInt_clamp]
  omega

theorem exec_motSetb_powerWord (hfree : s.blocked = .none) (m : MotorId) (x : Int) :
    exec (.motSetb m (powerWord x)) s = .next (s.setMotor m ((s.motor m).command x)) := by
  refine (hostOp_of_free hfree).trans ?_
  change Host.Outcome.next (s.setMotor m ((s.motor m).command (powerWord x).toInt)) = _
  rw [Motor.command, powerWord_toInt_powerWord, Motor.command]

/-- The source that guards a motor's power is that of its off handler. -/
theorem sourceOf_guardSource (v : MotVariant) (m : MotorId) :
    sourceOf v (guardSource v m) = some ((TimerOp.motOff m).source v) := by
  cases v <;> cases m <;> rfl

theorem motOff_source_brushed (v : MotVariant) (m : MotorId) :
    (TimerOp.motOff m).source v = .brushed0 ∨ (TimerOp.motOff m).source v = .brushed1 := by
  cases v <;> cases m <;> decide

/-- A motor's power written, with the interrupt control and the results that go with it. -/
def State.commanded (m : MotorId) (x : Int) (q : Irq) (r : List HostResult) (s : State) : State :=
  { s.setMotor m ((s.motor m).command x) with irq := q, results := r }

/-- MOT.SETBG with no brushed event held writes the power, and no brushed event is held after it (R257). -/
theorem runOps_opsSetbg (hfree : s.blocked = .none) (h0 : s.irq.pendBrushed0 = [])
    (h1 : s.irq.pendBrushed1 = []) (m : MotorId) (x : Int) :
    ∃ q : Irq, q.pendBrushed0 = [] ∧ q.pendBrushed1 = [] ∧
      runOps (opsSetbg s.cfg.motVariant m x) s = .next (s.commanded m x q s.results) := by
  have hk := sourceOf_guardSource s.cfg.motVariant m
  have hbrushed := motOff_source_brushed s.cfg.motVariant m
  generalize (TimerOp.motOff m).source s.cfg.motVariant = src at hk hbrushed
  have hnil : s.irq.pend src = [] := by
    obtain rfl | rfl := hbrushed
    · exact h0
    · exact h1
  have hdisable := exec_irqDisable_of_source hfree hk
  have hset := exec_motSetb_powerWord (s := { s with irq := s.irq.setEn src false }) hfree m x
  have henable := exec_irqEnable_of_pend_nil (s := { s.setMotor m ((s.motor m).command x) with
    irq := s.irq.setEn src false }) (k := guardSource s.cfg.motVariant m) (src := src)
    (by rwa [setMotor_blocked]) (by rwa [setMotor_cfg]) (hbrushed.imp_right .inl) ((setEn_pend _ _ _ _).trans hnil)
  refine ⟨s.irq.setEn src true, (setEn_pend _ _ .brushed0 _).trans h0, (setEn_pend _ _ .brushed1 _).trans h1, ?_⟩
  rw [setEn_setEn] at henable
  refine runOps_cons_next hdisable (runOps_cons_next hset (runOps_cons_next ?_ rfl))
  cases m <;> exact henable

/-! SCH.CMD with decoded inputs. -/

/-- The host is free, its reads have values, and no brushed event is held. -/
structure CmdReady (s : State) : Prop where
  free : s.blocked = .none
  decoded : s.cfg.cmdSource = .pulseDecoded
  duty : ∀ id, (s.pd.chan id).dutySet = true
  shutcond : s.pd.shutcondSet = true
  pendBrushed0 : s.irq.pendBrushed0 = []
  pendBrushed1 : s.irq.pendBrushed1 = []

theorem CmdReady.giveResult (h : CmdReady s) (r : HostResult) : CmdReady (s.giveResult r) :=
  ⟨h.free, h.decoded, h.duty, h.shutcond, h.pendBrushed0, h.pendBrushed1⟩

theorem CmdReady.set_esc (h : CmdReady s) (e : Esc) : CmdReady { s with esc := e } :=
  ⟨h.free, h.decoded, h.duty, h.shutcond, h.pendBrushed0, h.pendBrushed1⟩

theorem CmdReady.exec_oriSign (h : CmdReady s) : exec .oriSign s = .next (s.giveResult (.sign s.ori.orifilt)) :=
  hostOp_of_free h.free

theorem CmdReady.exec_pdRead (h : CmdReady s) {k : BitVec 3} {id : ChanId} (hk : chanOf k = some id) :
    exec (.pdRead k) s = .next (s.giveResult (.duty (s.pd.chan id).duty)) :=
  (Machine.exec_pdRead hk h.free h.decoded).trans (if_pos (h.duty id))

theorem CmdReady.exec_motSete (h : CmdReady s) (p : Byte) :
    exec (.motSete p) s = .next { s with esc := { s.esc with escpower := p, escpowerSet := true } } :=
  hostOp_of_free h.free

theorem CmdReady.exec_motShut (h : CmdReady s) (f : Bool) :
    exec (.motShut f) s = .next { s with esc := { s.esc with escshut := f, escshutSet := true } } :=
  hostOp_of_free h.free

theorem CmdReady.exec_pdReadshut (h : CmdReady s) :
    exec .pdReadshut s = .next (s.giveResult (.shut s.pd.shutcond)) :=
  (Machine.exec_pdReadshut h.free h.decoded).trans (if_pos h.shutcond)

theorem CmdReady.commanded (h : CmdReady s) (m : MotorId) (x : Int) {q : Irq} (r : List HostResult)
    (h0 : q.pendBrushed0 = []) (h1 : q.pendBrushed1 = []) : CmdReady (s.commanded m x q r) := by
  cases m <;> exact ⟨h.free, h.decoded, h.duty, h.shutcond, h0, h1⟩

/-- The part of SCH.CMD that commands one motor: two reads and MOT.SETBG (R255). -/
def opsCommand (c : Config) (m : MotorId) (j k : BitVec 3) (x : Int) : List Instr :=
  .pdRead j :: .pdRead k :: opsSetbg c.motVariant m x

/-- The part of SCH.CMD after the motors' commands (R255). -/
def opsFinish (p : Byte) (shut : Bool) : List Instr :=
  [.pdRead 4#3, .motSete p, .pdReadshut, .motShut shut, .motRecomp]

/-- Two duty bytes are read and a motor is given its power: the host is as ready as before. -/
theorem CmdReady.runOps_command (h : CmdReady s) {j k : BitVec 3} {a b : ChanId} (hj : chanOf j = some a)
    (hk : chanOf k = some b) {c : Config} (hc : s.cfg = c) (m : MotorId) (x : Int) :
    ∃ q r, CmdReady (s.commanded m x q r) ∧ runOps (opsCommand c m j k x) s = .next (s.commanded m x q r) := by
  subst hc
  have h' := h.giveResult (.duty (s.pd.chan a).duty)
  have h'' := h'.giveResult (.duty (s.pd.chan b).duty)
  obtain ⟨q, hq0, hq1, hset⟩ := runOps_opsSetbg h''.free h''.pendBrushed0 h''.pendBrushed1 m x
  refine ⟨q, s.results ++ [.duty (s.pd.chan a).duty] ++ [.duty (s.pd.chan b).duty], h.commanded m x _ hq0 hq1, ?_⟩
  refine runOps_cons_next (h.exec_pdRead hj) (runOps_cons_next (h'.exec_pdRead hk) (hset.trans ?_))
  cases m <;> rfl

/-- The brushless channel after MOT.SETE, MOT.SHUT and MOT.RECOMP (R192, R193, R207). -/
def Esc.command (c : Config) (p : Byte) (shut : Bool) (e : Esc) : Esc :=
  { e with
    escpower := p, escpowerSet := true, escshut := shut, escshutSet := true
    escwidth := escWidth c p, escwidthSet := true }

/-- The throttle and the shutdown flag given, and the thresholds recomputed for the powers that stand. -/
def State.finished (p : Byte) (shut : Bool) (r : List HostResult) (s : State) : State :=
  { s with
    mot0 := s.mot0.recomp s.cfg
    mot1 := s.mot1.recomp s.cfg
    esc := s.esc.command s.cfg p shut
    results := r }

theorem CmdReady.runOps_finish (h : CmdReady s) (h0 : s.mot0.powerSet = true) (h1 : s.mot1.powerSet = true)
    (p : Byte) (shut : Bool) :
    ∃ r, runOps (opsFinish p shut) s = .next (s.finished p shut r) := by
  have hread := h.giveResult (.duty (s.pd.chan .c4).duty)
  have hsete := hread.set_esc { s.esc with escpower := p, escpowerSet := true }
  have hreadshut := hsete.giveResult (.shut s.pd.shutcond)
  have hshut := hreadshut.set_esc
    { s.esc with escpower := p, escpowerSet := true, escshut := shut, escshutSet := true }
  exact ⟨_, runOps_cons_next (h.exec_pdRead rfl) (runOps_cons_next (hread.exec_motSete p) (runOps_cons_next
    hsete.exec_pdReadshut (runOps_cons_next (hreadshut.exec_motShut shut) (runOps_cons_next
      (exec_motRecomp_of_set hshut.free h0 h1 rfl) rfl))))⟩

/-- SCH.CMD in its parts: the sign, a command for each motor, and the rest (R255). -/
theorem opsCmdDecoded_eq (c : Config) (sg : Sign) (d0 d1 d2 d3 p : Byte) (shut : Bool) :
    opsCmdDecoded c sg d0 d1 d2 d3 p shut = .oriSign ::
      (opsCommand c .m0 0#3 1#3 (signedCommand sg ((d0.toNat : Int) - d1.toNat)) ++
      (opsCommand c .m1 2#3 3#3 (signedCommand sg ((d2.toNat : Int) - d3.toNat)) ++
      opsFinish (quantise c p) shut)) := by
  simp only [opsCmdDecoded, opsCommand, opsFinish, List.append_assoc, List.cons_append, List.nil_append]

/-- SCH.CMD stores what it is given and recomputes the thresholds (R255): nothing changes but the motors, the brushless
channel, the interrupt control and the results. -/
theorem CmdReady.runOps_opsCmdDecoded (h : CmdReady s) (sg : Sign) (d0 d1 d2 d3 p : Byte) (shut : Bool) :
    ∃ (q : Irq) (r : List HostResult), runOps (opsCmdDecoded s.cfg sg d0 d1 d2 d3 p shut) s = .next { s with
      mot0 := (s.mot0.command (signedCommand sg ((d0.toNat : Int) - d1.toNat))).recomp s.cfg
      mot1 := (s.mot1.command (signedCommand sg ((d2.toNat : Int) - d3.toNat))).recomp s.cfg
      esc := s.esc.command s.cfg (quantise s.cfg p) shut
      irq := q, results := r } := by
  have hstart := h.giveResult (.sign s.ori.orifilt)
  obtain ⟨q0, r0, hready0, hrun0⟩ := hstart.runOps_command (j := 0#3) (k := 1#3) (c := s.cfg) rfl rfl rfl .m0
    (signedCommand sg ((d0.toNat : Int) - d1.toNat))
  obtain ⟨q1, r1, hready1, hrun1⟩ := hready0.runOps_command (j := 2#3) (k := 3#3) (c := s.cfg) rfl rfl rfl .m1
    (signedCommand sg ((d2.toNat : Int) - d3.toNat))
  obtain ⟨r, hrun2⟩ := hready1.runOps_finish rfl rfl (quantise s.cfg p) shut
  refine ⟨q1, r, ?_⟩
  rw [opsCmdDecoded_eq]
  have hrun := runOps_cons_next h.exec_oriSign (runOps_append_next hrun0 (runOps_append_next hrun1 hrun2))
  simpa only [State.finished, State.commanded, State.giveResult, State.setMotor, State.motor] using hrun

theorem opsCmd_of_decoded (hsrc : s.cfg.cmdSource = .pulseDecoded) :
    opsCmd s = opsCmdDecoded s.cfg s.ori.orifilt s.pd.c0.duty s.pd.c1.duty s.pd.c2.duty s.pd.c3.duty s.pd.c4.duty
      s.pd.shutcond := by
  rw [opsCmd, hsrc]

/-! The signed powers. -/

/-- A power that is a signed difference of two bytes is stored as it is. -/
theorem toInt_powerWord_signedCommand (sg : Sign) (a b : Byte) :
    (powerWord (signedCommand sg ((a.toNat : Int) - b.toNat))).toInt =
      signedCommand sg ((a.toNat : Int) - b.toNat) := by
  rw [powerWord, toInt_ofInt_clamp, signedCommand]
  split <;> omega

theorem signedCommand_of_val_ne {sg : Sign} (h : sg.val ≠ -1) (x : Int) : signedCommand sg x = x :=
  if_neg (by rintro rfl; exact h rfl)

theorem signedCommand_sub_of_val_eq {sg : Sign} (h : sg.val = -1) (x y : Int) : signedCommand sg (x - y) = y - x :=
  (if_pos (Sign.val_injective h)).trans (neg_sub x y)

/-! The statements. -/

/-- Settles O53: the saturated counts, and the branches of SCH.TAKE by its guard and its threshold. -/
theorem tickCountersCountAndYield : Obligations.TickCountersCountAndYield := by
  refine ⟨fun s hen => ⟨_, _, toNat_satInc _, toNat_satInc _, exec_schDtick_enabled hen⟩, fun s hfree hen => ?_,
    fun s k hfree hen => exec_schTake_unguarded hfree hen k⟩
  have htake := exec_schTake_guarded hfree hen
  refine ⟨fun hle => ?_, fun hlt => ?_, fun hle => ?_, fun hlt => ?_⟩
  · exact (htake .n).trans (congrArg _ (if_pos hle))
  · exact (htake .n).trans (congrArg _ (if_neg (Nat.not_le.mpr hlt)))
  · exact (htake .m).trans (congrArg _ (if_pos hle))
  · exact (htake .m).trans (congrArg _ (if_neg (Nat.not_le.mpr hlt)))

/-- Settles O57: the state SCH.CMD runs to, with the powers it stores read as numbers. -/
theorem commandsFollowDutyAndSign : Obligations.CommandsFollowDutyAndSign := by
  intro s _ hsrc hfree _ hnil0 hnil1 hduty hshut
  have hready : CmdReady s := ⟨hfree, hsrc, hduty, hshut, hnil0, hnil1⟩
  obtain ⟨q, r, hrun⟩ := hready.runOps_opsCmdDecoded s.ori.orifilt s.pd.c0.duty s.pd.c1.duty s.pd.c2.duty
    s.pd.c3.duty s.pd.c4.duty s.pd.shutcond
  have hpower := toInt_powerWord_signedCommand s.ori.orifilt
  rw [opsCmd_of_decoded hsrc]
  refine ⟨_, hrun, fun hsign => ?_, fun hsign => ?_, rfl, rfl, rfl, rfl, rfl, rfl, rfl⟩
  · have hkept := signedCommand_of_val_ne hsign
    exact ⟨(hpower _ _).trans (hkept _), (hpower _ _).trans (hkept _)⟩
  · have hnegated := signedCommand_sub_of_val_eq hsign
    exact ⟨(hpower _ _).trans (hnegated _ _), (hpower _ _).trans (hnegated _ _)⟩

end Sys2Proof.Machine

/-!
Interrupt control (`60_exceptions.md`): what IRQ.ENABLE serves of each source and what it leaves (R281, R282), and the
events held of the disabled timer sources (R278).
-/

namespace Sys2Proof.Machine

variable {s t v : State}

/-! The sources by their numbers, and by the operations they hold. -/

/-- The numbers of the sources of a variant (`30_encoding.md` R115). -/
theorem sourceOf_of_mem {v : MotVariant} {k : BitVec 3} {src : Source}
    (h : (k, src) ∈ [(0#3, Source.bus), (1#3, .sampler), (2#3, .brushed0), (4#3, .esc), (5#3, .display)] ∨
      (k, src) = (3#3, .brushed1) ∧ v = .a) : sourceOf v k = some src := by
  simp only [List.mem_cons, Prod.mk.injEq, List.not_mem_nil, or_false] at h
  obtain (⟨rfl, rfl⟩ | ⟨rfl, rfl⟩ | ⟨rfl, rfl⟩ | ⟨rfl, rfl⟩ | ⟨rfl, rfl⟩) | ⟨⟨rfl, rfl⟩, rfl⟩ := h <;> rfl

/-- An operation that a source can hold is of that source (`60_exceptions.md` R276). -/
theorem source_of_mem_heldOps {v : MotVariant} {src : Source} :
    ∀ op ∈ heldOps v src, op.source v = src := by cases v <;> cases src <;> decide

/-- What a list holds are operations of its source (`10_state.md` R52). -/
theorem PendInv.mem_heldOps (hp : PendInv s) {src : Source} :
    ∀ op ∈ s.irq.pend src, op ∈ heldOps s.cfg.motVariant src := by
  obtain ⟨hlists, -⟩ := pendInv_iff.mp hp
  obtain ⟨-, hops, -⟩ := hlists src
  exact hops

/-! IRQ.ENABLE of source 0. -/

theorem exec_irqEnable_of_source {k : BitVec 3} {src : Source} (hfree : s.blocked = .none)
    (hk : sourceOf s.cfg.motVariant k = some src) :
    exec (.irqEnable k) s = serveSource src { s with irq := s.irq.setEn src true } := by
  change execIrqEnable k s = _
  rw [execIrqEnable, hostOp_of_free hfree, hk]

theorem servePending_of_none (hevt : s.eng.evt = none) : servePending s = .next s := by
  simp [servePending, hevt]

/-- A held unexpected status code is re-armed with the request that stood over (R151, log 10). -/
theorem servePending_of_other {e : BusEvent} (hevt : s.eng.evt = some e) (hcode : busCodeOf e.status = none) :
    servePending s = .next (act .rearm (consumeEvent (resumeRequest s))) := by
  simp [servePending, hevt, hcode, handleOther]

/-- The engine part of a listed event leaves it to be served by its handler. -/
theorem servePending_engineDone {c : BusCode} {d : Option Byte} {sym : WireSym} {ph : EngPhase} {own : Bool}
    (hctx : busContext c s.bus = true) :
    servePending (engineDone c d sym ph own s) = handleCode c d (engineDone c d sym ph own s) := by
  simp [servePending, engineDone, hctx]

/-- A listed event that arrived on the disabled source is served as if it arrived on the enabled one. -/
theorem servePending_of_held {i : Instr} (hi : isListedEvent i = true) (hdis : v.irq.enBus = false)
    (h : exec i v = .next s) :
    servePending { s with irq := s.irq.setEn .bus true } = exec i { v with irq := v.irq.setEn .bus true } := by
  obtain ⟨c, d, hi⟩ := exists_raises hi
  rw [hi.exec] at h ⊢
  obtain ⟨hctx, hevt, sym, ph, own, hans, _, rfl, ⟨hen, -⟩ | ⟨-, rfl⟩⟩ := busEvent_next h
  · simp [hdis] at hen
  · have hnow := busEvent_enabled (s := { v with irq := v.irq.setEn .bus true }) hctx hevt hans rfl
    have hlater := servePending_engineDone (s := { v with irq := v.irq.setEn .bus true }) (d := d) (sym := sym)
      (ph := ph) (own := own) hctx
    exact hlater.trans hnow.symm

/-! IRQ.ENABLE of the sampler and of the display. -/

theorem serveSource_sampler_of_free (hp : s.irq.pendSampler = false) : serveSource .sampler s = .next s := by
  simp [serveSource, hp]

/-- The held sampler tick samples the levels of the latest PD.TICK word (R278). -/
theorem serveSource_sampler_of_held (hp : s.irq.pendSampler = true) (hen : s.irq.enSampler = true)
    (hsrc : s.cfg.cmdSource = .pulseDecoded) :
    serveSource .sampler s = exec (.pdTick s.pd.lines) { s with irq := { s.irq with pendSampler := false } } := by
  have hrun := exec_pdTick_run (s := { s with irq := { s.irq with pendSampler := false } }) s.pd.lines hsrc hen
  refine (if_pos hp).trans (Eq.trans ?_ hrun.symm)
  exact withDecoder_of_present hsrc

theorem serveSource_display_of_free (hp : s.irq.pendDisplay = false) : serveSource .display s = .next s := by
  simp [serveSource, hp]

/-- The held display tick counts as it does on the enabled source (R251). -/
theorem serveSource_display_of_held (hp : s.irq.pendDisplay = true) (hen : s.irq.enDisplay = true) :
    serveSource .display s = exec .schDtick { s with irq := { s.irq with pendDisplay := false } } := by
  refine (if_pos hp).trans (Eq.symm ?_)
  exact exec_schDtick_enabled (s := { s with irq := { s.irq with pendDisplay := false } }) hen

/-! IRQ.ENABLE of a timer source. -/

theorem serveSource_timer {src : Source} (hsrc : src = .brushed0 ∨ src = .brushed1 ∨ src = .esc) :
    serveSource src s =
      andThen (runTimerOps (s.irq.pend src) s) fun u => .next { u with irq := u.irq.setPend src [] } := by
  obtain rfl | rfl | rfl := hsrc <;> rfl

/-- Held operations of an enabled source run as the operations they are. -/
theorem runTimerOps_eq_runOps {src : Source} {ops : List TimerOp}
    (hops : ∀ op ∈ ops, op ∈ heldOps s.cfg.motVariant src) (hen : s.irq.en src = true) :
    runTimerOps ops s = runOps (ops.map TimerOp.instr) s := by
  induction ops generalizing s with
  | nil => rfl
  | cons op rest ih =>
    have hop := hops op List.mem_cons_self
    have hsource := source_of_mem_heldOps op hop
    have hnow : runTimerOp op s = exec op.instr s := by
      rw [exec_timerOp (hsource ▸ hop), due_enabled (hsource ▸ hen)]
    change andThen (runTimerOp op s) (runTimerOps rest) = andThen (exec op.instr s) (runOps (rest.map _))
    rw [← hnow]
    refine andThen_congr fun w hw => ?_
    obtain ⟨hstate, -, -⟩ := runTimerOp_pins hw
    refine ih (fun o ho => ?_) ?_
    · rw [hstate]; exact hops o (List.mem_cons_of_mem _ ho)
    · rw [hstate]; exact hen

/-- With the fields they read specified, held operations of the variant all run. -/
theorem HandlersReady.runTimerOps_answers {src : Source} {ops : List TimerOp} (hs : HandlersReady s)
    (hops : ∀ op ∈ ops, op ∈ heldOps s.cfg.motVariant src) : ∃ t, runTimerOps ops s = .next t := by
  induction ops generalizing s with
  | nil => exact ⟨s, rfl⟩
  | cons op rest ih =>
    have hop := hops op List.mem_cons_self
    obtain ⟨w, hw⟩ := hs.runTimerOp_answers (source_of_mem_heldOps op hop ▸ hop)
    have hpins := runTimerOp_pins hw
    have hcfg : w.cfg = s.cfg := by rw [hpins.1]
    obtain ⟨t, ht⟩ := ih (hpins.handlersReady hs) (hcfg ▸ fun o ho => hops o (List.mem_cons_of_mem _ ho))
    exact ⟨t, andThen_eq_next.mpr ⟨w, hw, ht⟩⟩

theorem HandlersReady.serveSource_timer_answers {src : Source}
    (hsrc : src = .brushed0 ∨ src = .brushed1 ∨ src = .esc) (hs : HandlersReady s)
    (hops : ∀ op ∈ s.irq.pend src, op ∈ heldOps s.cfg.motVariant src) : ∃ t, serveSource src s = .next t := by
  obtain ⟨w, hw⟩ := hs.runTimerOps_answers hops
  exact ⟨_, (serveSource_timer hsrc).trans (andThen_eq_next.mpr ⟨w, hw, rfl⟩)⟩

/-! What IRQ.ENABLE leaves. -/

theorem setPend_nil_pend (q : Irq) (src : Source) : (q.setPend src []).pend src = [] := by cases src <;> rfl

/-- A served source is as enabled as it was, and nothing of it is pending. -/
theorem Served.nothing_pending {src : Source} (h : Served s src t) :
    t.irq.en src = s.irq.en src ∧ t.irq.pend src = [] ∧ (src = .bus → t.eng.evt = none) ∧
      (src = .sampler → t.irq.pendSampler = false) ∧ (src = .display → t.irq.pendDisplay = false) := by
  cases h with
  | bus h he => exact ⟨by rw [h], rfl, by simpa using he⟩
  | sampler h => rw [h]; exact ⟨rfl, rfl, by simp⟩
  | display h => rw [h]; exact ⟨rfl, rfl, by simp⟩
  | timer hsrc hu =>
    obtain ⟨hstate, -, -⟩ := hu
    refine ⟨?_, setPend_nil_pend _ _, ?_⟩
    · rw [setPend_en, hstate]
    · obtain rfl | rfl | rfl := hsrc <;> simp

/-- The answer of IRQ.ENABLE of a timer source whose handlers can run: pins, the pin trace, and the source enabled
with its list emptied. -/
theorem HandlersReady.irqEnable_timer {k : BitVec 3} {src : Source} (hs : HandlersReady s) (hp : PendInv s)
    (hfree : s.blocked = .none) (hk : sourceOf s.cfg.motVariant k = some src)
    (hsrc : src = .brushed0 ∨ src = .brushed1 ∨ src = .esc) :
    ∃ w, PinsOnly { s with irq := s.irq.setEn src true } w ∧
      exec (.irqEnable k) s = .next { w with irq := (s.irq.setEn src true).setPend src [] } := by
  obtain ⟨t, ht⟩ := HandlersReady.serveSource_timer_answers (s := { s with irq := s.irq.setEn src true }) hsrc hs
    (by rw [setEn_pend]; exact hp.mem_heldOps)
  obtain ⟨w, -, hpins, rfl⟩ := serveSource_timer_next hsrc ht
  have hirq : w.irq = s.irq.setEn src true := by rw [hpins.1]
  refine ⟨w, hpins, ?_⟩
  rw [exec_irqEnable_of_source hfree hk, ht, hirq]

/-- The enabled source is served whatever is pending of it, but for a listed event held, whose context may be gone
(log 11). -/
theorem HandlersReady.serveSource_answers {src : Source} (hs : HandlersReady s) (hen : s.irq.en src = true)
    (hops : ∀ op ∈ s.irq.pend src, op ∈ heldOps s.cfg.motVariant src)
    (hevt : ∀ e, s.eng.evt = some e → busCodeOf e.status = none)
    (hsampler : s.irq.pendSampler = true → s.cfg.cmdSource = .pulseDecoded) :
    ∃ t, serveSource src s = .next t := by
  cases src with
  | bus =>
    cases he : s.eng.evt with
    | none => exact ⟨_, servePending_of_none he⟩
    | some e => exact ⟨_, servePending_of_other he (hevt e he)⟩
  | sampler =>
    cases hheld : s.irq.pendSampler with
    | false => exact ⟨_, serveSource_sampler_of_free hheld⟩
    | true =>
      have hdec := hsampler hheld
      exact ⟨_, (serveSource_sampler_of_held hheld hen hdec).trans (exec_pdTick_run _ hdec hen)⟩
  | display =>
    cases hheld : s.irq.pendDisplay with
    | false => exact ⟨_, serveSource_display_of_free hheld⟩
    | true => exact ⟨_, (serveSource_display_of_held hheld hen).trans (exec_schDtick_enabled hen)⟩
  | brushed0 | brushed1 | esc => exact hs.serveSource_timer_answers (by simp) hops

/-! The events held of the disabled timer sources. -/

/-- The timer operations of a variant, each with its held form and its source (R276). -/
def timerOpRows (v : MotVariant) : List (Instr × TimerOp × Source) :=
  ([(.motOff .m0, .motOff .m0, .brushed0), (.escAssert, .escAssert, .esc), (.escDeassert, .escDeassert, .esc)] :
    List (Instr × TimerOp × Source)) ++
  match v with
  | .a => [(.motOn .m0, .motOn .m0, .brushed0), (.motOn .m1, .motOn .m1, .brushed1),
      (.motOff .m1, .motOff .m1, .brushed1)]
  | .b => [(.motOvf, .motOvf, .brushed0), (.motOff .m1, .motOff .m1, .brushed0)]

theorem timerOpRows_held (v : MotVariant) :
    ∀ r ∈ timerOpRows v, r.1 = r.2.1.instr ∧ r.2.1 ∈ heldOps v r.2.2 := by cases v <;> decide

theorem exec_schDtick_disabled (hen : s.irq.enDisplay = false) :
    exec .schDtick s = .next { s with irq := { s.irq with pendDisplay := true } } :=
  if_neg (by simp [Irq.en, hen])

/-! The statements. -/

/-- Settles O48: an operation of a disabled source is appended to its list, once. -/
theorem disabledTimersHoldEvents : Obligations.DisabledTimersHoldEvents := by
  refine ⟨fun s i op src hrow hen => ?_, fun s hen => exec_schDtick_disabled hen⟩
  obtain ⟨rfl, hop⟩ : i = op.instr ∧ op ∈ heldOps s.cfg.motVariant src := timerOpRows_held _ _ hrow
  obtain rfl : op.source s.cfg.motVariant = src := source_of_mem_heldOps op hop
  refine ⟨_, (exec_timerOp hop).trans (due_disabled hen), rfl, fun hmem => hold_of_mem _ hmem, fun hnew => ?_⟩
  exact ⟨hold_pend_source _ hnew, fun other ho => hold_pend_other _ ho op, fun other => hold_en _ _ other op,
    hold_pendSampler _ _ op, hold_pendDisplay _ _ op⟩

/-- Settles O60: the enabled source is served, and then nothing of it is pending. -/
theorem interruptControlCompletes : Obligations.InterruptControlCompletes := by
  intro s k src hfree hsrc
  have hk := sourceOf_of_mem hsrc
  refine ⟨⟨_, exec_irqDisable_of_source hfree hk, setEn_en _ _ _⟩, fun hp hevt hsampler h0 h1 hshut => ?_⟩
  have hready : HandlersReady { s with irq := s.irq.setEn src true } := ⟨hshut, forall_motorId.mpr ⟨h0, h1⟩⟩
  have hheld : ∀ op ∈ (s.irq.setEn src true).pend src, op ∈ heldOps s.cfg.motVariant src := by
    rw [setEn_pend]
    exact hp.mem_heldOps
  obtain ⟨t, ht⟩ := hready.serveSource_answers (setEn_en _ _ _) hheld hevt (by rwa [setEn_pendSampler])
  obtain ⟨hen, hpending⟩ := (served_of_serveSource ht).nothing_pending
  exact ⟨t, (exec_irqEnable_of_source hfree hk).trans ht, hen.trans (setEn_en _ _ _), hpending⟩

/-- Settles O54, source by source. -/
theorem interruptControl : Obligations.InterruptControl := by
  intro s k src hfree hsrc
  have hk := sourceOf_of_mem hsrc
  have henable := exec_irqEnable_of_source hfree hk
  refine ⟨⟨_, exec_irqDisable_of_source hfree hk, setEn_en _ _ _, fun other ho => setEn_en_other _ ho _,
    fun other => setEn_pend _ _ other _, setEn_pendSampler _ _ _, setEn_pendDisplay _ _ _⟩, ?_⟩
  rintro u rfl
  refine ⟨?_, ?_, ?_, ?_, ?_, ?_, ?_, fun htimer => exec_irqEnable_of_pend_nil hfree hk htimer, ?_, ?_⟩
  · rintro rfl hevt
    exact henable.trans (servePending_of_none hevt)
  · rintro rfl st hevt hst
    exact henable.trans (servePending_of_other hevt (busCodeOf_eq_none_iff.mpr hst))
  · rintro rfl v i hi hdis h
    exact henable.trans (servePending_of_held hi hdis h)
  · rintro rfl hp
    exact henable.trans (serveSource_sampler_of_free hp)
  · rintro rfl hp hdec
    exact henable.trans
      (serveSource_sampler_of_held (s := { s with irq := s.irq.setEn .sampler true }) hp rfl hdec)
  · rintro rfl hp
    exact henable.trans (serveSource_display_of_free hp)
  · rintro rfl hp
    exact henable.trans (serveSource_display_of_held (s := { s with irq := s.irq.setEn .display true }) hp rfl)
  · intro htimer hp
    have hrun := runTimerOps_eq_runOps (s := { s with irq := s.irq.setEn src true }) hp.mem_heldOps (setEn_en _ _ _)
    rw [henable, serveSource_timer htimer, ← hrun, setEn_pend]
  · intro htimer hp h0 h1 hshut
    have hready : HandlersReady s := ⟨hshut, forall_motorId.mpr ⟨h0, h1⟩⟩
    obtain ⟨w, ⟨hstate, hmot, hesc⟩, hw⟩ := hready.irqEnable_timer hp hfree hk htimer
    refine ⟨_, hw, ?_, hmot, hesc, setPend_nil_pend _ _, ?_, fun other ho => ⟨?_, ?_⟩, ?_, ?_⟩
    · rw [hstate]
    · simp
    · simp [setPend_pend_other _ ho]
    · simp [setEn_en_other _ ho]
    · simp
    · simp

end Sys2Proof.Machine

/-!
The writers of the fields (`60_exceptions.md` R290): for each group of fields, the operations that can change it; and the
host that waits for ever (R271).
-/

namespace Sys2Proof.Machine

variable {s t u : State}

/-! The handlers of the timers. -/

/-- The host's commands and the values MOT.RECOMP latches are as they were (`10_state.md` R39 to R43). -/
def SameCommands (s t : State) : Prop :=
  (∀ m, (t.motor m).power = (s.motor m).power ∧ (t.motor m).offthr = (s.motor m).offthr) ∧
  t.esc.escpower = s.esc.escpower ∧ t.esc.escshut = s.esc.escshut ∧ t.esc.escwidth = s.esc.escwidth

theorem SameCommands.refl (s : State) : SameCommands s s := ⟨fun _ => ⟨rfl, rfl⟩, rfl, rfl, rfl⟩

theorem SameCommands.trans (h : SameCommands s t) (k : SameCommands t u) : SameCommands s u := by
  obtain ⟨hmot, hpower, hshut, hwidth⟩ := h
  obtain ⟨kmot, kpower, kshut, kwidth⟩ := k
  exact ⟨fun m => ⟨(kmot m).1.trans (hmot m).1, (kmot m).2.trans (hmot m).2⟩, kpower.trans hpower, kshut.trans hshut,
    kwidth.trans hwidth⟩

theorem PinsOnly.sameCommands (h : PinsOnly s t) : SameCommands s t := by
  obtain ⟨-, hmot, hesc⟩ := h
  exact ⟨fun m => by rw [hmot m]; exact ⟨rfl, rfl⟩, by rw [hesc], by rw [hesc], by rw [hesc]⟩

/-- What the timers' handlers, run or held, leave as it was: all but pins, the pin trace and the pending lists. -/
structure HandlersOnly (s t : State) : Prop where
  state : t = { s with mot0 := t.mot0, mot1 := t.mot1, esc := t.esc, irq := t.irq, pinlog := t.pinlog }
  commands : SameCommands s t
  en : ∀ src, t.irq.en src = s.irq.en src
  pendDisplay : t.irq.pendDisplay = s.irq.pendDisplay

theorem HandlersOnly.refl (s : State) : HandlersOnly s s := ⟨rfl, .refl s, fun _ => rfl, rfl⟩

theorem HandlersOnly.trans (h : HandlersOnly s t) (k : HandlersOnly t u) : HandlersOnly s u where
  state := by rw [k.state, h.state]
  commands := h.commands.trans k.commands
  en src := (k.en src).trans (h.en src)
  pendDisplay := k.pendDisplay.trans h.pendDisplay

theorem PinsOnly.handlersOnly (h : PinsOnly s t) : HandlersOnly s t := by
  have hcommands := h.sameCommands
  obtain ⟨hstate, -, -⟩ := h
  exact ⟨by rw [hstate], hcommands, fun _ => by rw [hstate], by rw [hstate]⟩

theorem due_handlersOnly {op : TimerOp} (h : due op s = .next t) : HandlersOnly s t := by
  obtain hpins | ⟨-, rfl⟩ := due_pins_or_hold h
  · exact hpins.handlersOnly
  · exact ⟨rfl, .refl s, fun src => hold_en _ _ src op, hold_pendDisplay _ _ op⟩

theorem DueRun.handlersOnly (h : DueRun s t) : HandlersOnly s t :=
  h.keeps (P := HandlersOnly s) (fun _ _ _ _ hdue hu => hu.trans (due_handlersOnly hdue)) (.refl s)

theorem exec_timerEvent_handlersOnly {i : Instr} (hp : mayDrivePins i = true) (hh : isHostOp i = false)
    (h : exec i s = .next t) : ∃ r, HandlersOnly { s with tmr := r } t := by
  obtain ⟨r, -, hrun⟩ := exec_timerEvent_next hp hh h
  exact ⟨r, hrun.handlersOnly⟩

/-- What IRQ.ENABLE serves writes no command, no latched value and no timer counter. -/
theorem Served.sameCommands {src : Source} (h : Served s src t) : SameCommands s t := by
  cases h with
  | bus h => rw [h]; exact .refl s
  | sampler h => rw [h]; exact .refl s
  | display h => rw [h]; exact .refl s
  | timer _ hu => exact hu.sameCommands

theorem Served.tmr {src : Source} (h : Served s src t) : t.tmr = s.tmr := by
  cases h with
  | bus h => rw [h]
  | sampler h => rw [h]
  | display h => rw [h]
  | timer _ hu => rw [hu.handlersOnly.state]

/-! The host's MOT operations. -/

/-- What an operation writes of the host's commands and of the latched values. -/
inductive CommandWritten (s : State) : Instr → State → Prop
  | same {i : Instr} {t : State} (h : SameCommands s t) : CommandWritten s i t
  | power {i : Instr} (k : MotorId) (w : Word16) (loSet hiSet : Bool)
      (hi : (∃ p, i = .motSetb k p) ∨ (∃ b, i = .motSetbl k b) ∨ (∃ b, i = .motSetbh k b)) :
      CommandWritten s i (s.setMotor k { s.motor k with power := w, powerLoSet := loSet, powerHiSet := hiSet })
  | escpower (p : Byte) :
      CommandWritten s (.motSete p) { s with esc := { s.esc with escpower := p, escpowerSet := true } }
  | escshut (f : Bool) :
      CommandWritten s (.motShut f) { s with esc := { s.esc with escshut := f, escshutSet := true } }
  | recomp : CommandWritten s .motRecomp { s with
      mot0 := s.mot0.recomp s.cfg
      mot1 := s.mot1.recomp s.cfg
      esc := { s.esc with escwidth := escWidth s.cfg s.esc.escpower, escwidthSet := true } }

theorem exec_motorCommand_written {i : Instr} (hm : isMotorCommand i = true) (h : exec i s = .next t) :
    CommandWritten s i t := by
  cases i with
  | motSetb k p =>
    obtain rfl := Host.Outcome.next.inj (hostOp_eq_next.mp h).2
    exact .power k _ _ _ (.inl ⟨p, rfl⟩)
  | motSetbl k b =>
    obtain rfl := Host.Outcome.next.inj (hostOp_eq_next.mp h).2
    exact .power k _ _ _ (.inr (.inl ⟨b, rfl⟩))
  | motSetbh k b =>
    obtain rfl := Host.Outcome.next.inj (hostOp_eq_next.mp h).2
    exact .power k _ _ _ (.inr (.inr ⟨b, rfl⟩))
  | motSete p => obtain rfl := Host.Outcome.next.inj (hostOp_eq_next.mp h).2; exact .escpower p
  | motShut f => obtain rfl := Host.Outcome.next.inj (hostOp_eq_next.mp h).2; exact .escshut f
  | motRecomp => obtain rfl := execMotRecomp_next h; exact .recomp
  | _ => cases hm

/-- Only the host's MOT operations write commands and latched values (R290). -/
theorem exec_commandWritten {i : Instr} (h : exec i s = .next t) : CommandWritten s i t := by
  obtain hb | hm | ⟨k, rfl⟩ | ⟨hp, hh⟩ | ⟨hb, hm, hp⟩ := instr_families i
  · exact .same (by rw [exec_bus_frame hb h]; exact .refl s)
  · exact exec_motorCommand_written hm h
  · obtain ⟨src, -, hserved⟩ := execIrqEnable_served h
    exact .same hserved.sameCommands
  · obtain ⟨_, hrun⟩ := exec_timerEvent_handlersOnly hp hh h
    exact .same hrun.commands
  · exact .same (by rw [exec_sensing_frame hb hm hp h]; exact .refl s)

theorem CommandWritten.power_writer {i : Instr} (h : CommandWritten s i t) (m : MotorId) :
    (t.motor m).power = (s.motor m).power ∨
      (∃ p, i = .motSetb m p) ∨ (∃ b, i = .motSetbl m b) ∨ (∃ b, i = .motSetbh m b) := by
  cases h with
  | same h => obtain ⟨hmot, -⟩ := h; exact .inl (hmot m).1
  | power k _ _ _ hi =>
    by_cases hk : m = k
    · subst hk; exact .inr hi
    · rw [setMotor_motor_other s hk]; exact .inl rfl
  | escpower | escshut | recomp => cases m <;> exact .inl rfl

theorem CommandWritten.offthr_writer {i : Instr} (h : CommandWritten s i t) (m : MotorId) :
    (t.motor m).offthr = (s.motor m).offthr ∨ i = .motRecomp := by
  cases h with
  | same h => obtain ⟨hmot, -⟩ := h; exact .inl (hmot m).2
  | power k => cases k <;> cases m <;> exact .inl rfl
  | escpower | escshut => cases m <;> exact .inl rfl
  | recomp => exact .inr rfl

theorem CommandWritten.escpower_writer {i : Instr} (h : CommandWritten s i t) :
    t.esc.escpower = s.esc.escpower ∨ ∃ p, i = .motSete p := by
  cases h with
  | same h => obtain ⟨-, hpower, -⟩ := h; exact .inl hpower
  | power k => exact .inl (by rw [setMotor_esc])
  | escpower p => exact .inr ⟨p, rfl⟩
  | escshut | recomp => exact .inl rfl

theorem CommandWritten.escshut_writer {i : Instr} (h : CommandWritten s i t) :
    t.esc.escshut = s.esc.escshut ∨ ∃ f, i = .motShut f := by
  cases h with
  | same h => obtain ⟨-, -, hshut, -⟩ := h; exact .inl hshut
  | power k => exact .inl (by rw [setMotor_esc])
  | escshut f => exact .inr ⟨f, rfl⟩
  | escpower | recomp => exact .inl rfl

theorem CommandWritten.escwidth_writer {i : Instr} (h : CommandWritten s i t) :
    t.esc.escwidth = s.esc.escwidth ∨ i = .motRecomp := by
  cases h with
  | same h => obtain ⟨-, -, -, hwidth⟩ := h; exact .inl hwidth
  | power k => exact .inl (by rw [setMotor_esc])
  | escpower | escshut => exact .inl rfl
  | recomp => exact .inr rfl

/-! The decoder, the tick counters, the enable bits and the timer counters. -/

/-- The writers among the operations outside BusDriver, the motors and IRQ.ENABLE. -/
theorem exec_sensing_writers {i : Instr} (hb : isBusOp i = false) (hm : isMotorCommand i = false)
    (hp : mayDrivePins i = false) (h : exec i s = .next t) :
    (t.pd = s.pd ∨ ∃ lv, i = .pdTick lv) ∧
      ((t.tickn = s.tickn ∧ t.tickm = s.tickm) ∨ i = .schDtick ∨ ∃ k, i = .schTake k) ∧
      ((∀ src, t.irq.en src = s.irq.en src) ∨ ∃ k, i = .irqDisable k) := by
  cases i with
  | pdTick lv =>
    obtain ⟨_, rfl, ⟨-, rfl⟩ | ⟨-, rfl⟩⟩ := execPdTick_next h
    · exact ⟨.inr ⟨lv, rfl⟩, .inl ⟨rfl, rfl⟩, .inl fun _ => rfl⟩
    · exact ⟨.inr ⟨lv, rfl⟩, .inl ⟨rfl, rfl⟩, .inl (en_set_pendSampler _ _)⟩
  | schDtick =>
    obtain ⟨-, rfl⟩ | ⟨-, rfl⟩ := execSchDtick_next h
    · exact ⟨.inl rfl, .inr (.inl rfl), .inl fun _ => rfl⟩
    · exact ⟨.inl rfl, .inr (.inl rfl), .inl (en_set_pendDisplay _ _)⟩
  | schTake k =>
    obtain rfl | rfl := execSchTake_next h <;>
      exact ⟨.inl (by simp), .inr (.inr ⟨k, rfl⟩), .inl fun _ => by simp⟩
  | irqDisable k =>
    obtain ⟨_, -, rfl⟩ := execIrqDisable_next h
    exact ⟨.inl rfl, .inl ⟨rfl, rfl⟩, .inr ⟨k, rfl⟩⟩
  | pdRead => obtain ⟨_, rfl⟩ := execPdRead_next h; exact ⟨.inl rfl, .inl ⟨rfl, rfl⟩, .inl fun _ => rfl⟩
  | pdReadshut => obtain rfl := pdReadshut_gives rfl h; exact ⟨.inl rfl, .inl ⟨rfl, rfl⟩, .inl fun _ => rfl⟩
  | oriSign => obtain rfl := oriSign_gives h; exact ⟨.inl rfl, .inl ⟨rfl, rfl⟩, .inl fun _ => rfl⟩
  | oriUpdate =>
    obtain rfl := Host.Outcome.next.inj (hostOp_eq_next.mp h).2
    exact ⟨.inl rfl, .inl ⟨rfl, rfl⟩, .inl fun _ => rfl⟩
  | _ => simp [isBusOp, isMotorCommand, mayDrivePins] at hb hm hp

theorem exec_pd_writer {i : Instr} (h : exec i s = .next t) :
    t.pd = s.pd ∨ (∃ lv, i = .pdTick lv) ∨ ∃ k, i = .irqEnable k := by
  obtain hb | hm | hk | ⟨hp, hh⟩ | ⟨hb, hm, hp⟩ := instr_families i
  · exact .inl (by rw [exec_bus_frame hb h])
  · exact .inl (by rw [exec_motorCommand_frame hm h])
  · exact .inr (.inr hk)
  · obtain ⟨_, hrun⟩ := exec_timerEvent_handlersOnly hp hh h
    exact .inl (by rw [hrun.state])
  · exact (exec_sensing_writers hb hm hp h).1.imp_right .inl

theorem exec_tickCounter_writer {i : Instr} (h : exec i s = .next t) :
    (t.tickn = s.tickn ∧ t.tickm = s.tickm) ∨ i = .schDtick ∨ (∃ k, i = .schTake k) ∨ ∃ k, i = .irqEnable k := by
  obtain hb | hm | hk | ⟨hp, hh⟩ | ⟨hb, hm, hp⟩ := instr_families i
  · exact .inl (by rw [exec_bus_frame hb h]; exact ⟨rfl, rfl⟩)
  · exact .inl (by rw [exec_motorCommand_frame hm h]; exact ⟨rfl, rfl⟩)
  · exact .inr (.inr (.inr hk))
  · obtain ⟨_, hrun⟩ := exec_timerEvent_handlersOnly hp hh h
    exact .inl (by rw [hrun.state]; exact ⟨rfl, rfl⟩)
  · exact (exec_sensing_writers hb hm hp h).2.1.imp_right (Or.imp_right .inl)

/-- Of BusDriver's operations BUS.INIT alone writes an enable bit (R130). -/
theorem exec_bus_irq {i : Instr} (hb : isBusOp i = true) (h : exec i s = .next t) :
    t.irq = s.irq ∨ ((∃ hz, i = .busInit hz) ∧ t.irq = s.irq.setEn .bus true) := by
  cases i with
  | busInit hz => obtain ⟨-, -, _, -, rfl⟩ := execBusInit_eq_next.mp h; exact .inr ⟨⟨hz, rfl⟩, rfl⟩
  | busSend | busRecv =>
    obtain ⟨-, -, -, -, -, h⟩ := callEntry_eq_next.mp h
    obtain rfl := Host.Outcome.next.inj h
    exact .inl rfl
  | busRet => obtain ⟨-, -, -, _, rfl⟩ := execBusRet_next h; exact .inl rfl
  | evStart | evRstart | evSlawAck | evSlawNack | evTxdAck | evTxdNack | evSlarAck | evSlarNack | evRxdAck
  | evRxdNack => exact .inl (by rw [(busEvent_frame h).1])
  | evOther => exact .inl (by rw [(execEvOther_frame h).1])
  | evStopdone => obtain ⟨-, rfl⟩ := execEvStopdone_next h; exact .inl rfl
  | _ => cases hb

theorem exec_en_writer {i : Instr} (h : exec i s = .next t) (src : Source) :
    t.irq.en src = s.irq.en src ∨
      (∃ hz, i = .busInit hz ∧ src = .bus) ∨ (∃ k, i = .irqDisable k) ∨ ∃ k, i = .irqEnable k := by
  obtain hb | hm | hk | ⟨hp, hh⟩ | ⟨hb, hm, hp⟩ := instr_families i
  · obtain hirq | ⟨⟨hz, rfl⟩, hirq⟩ := exec_bus_irq hb h
    · exact .inl (by rw [hirq])
    · by_cases hsrc : src = .bus
      · exact .inr (.inl ⟨hz, rfl, hsrc⟩)
      · exact .inl (by rw [hirq, setEn_en_other _ hsrc])
  · exact .inl (by rw [exec_motorCommand_frame hm h])
  · exact .inr (.inr (.inr hk))
  · obtain ⟨_, hrun⟩ := exec_timerEvent_handlersOnly hp hh h
    exact .inl (hrun.en src)
  · obtain ⟨-, -, hen⟩ := exec_sensing_writers hb hm hp h
    exact hen.imp (fun hsame => hsame src) fun hk => .inr (.inl hk)

/-- A timer operation that is no TMR.TICK and answers is a handler operation that the variant has (R276). -/
theorem timerOp_of_exec {i : Instr} (hp : mayDrivePins i = true) (hh : isHostOp i = false)
    (hk : ∀ k, i ≠ .tmrTick k) (h : exec i s = .next t) :
    ∃ op : TimerOp, i = op.instr ∧ op ∈ heldOps s.cfg.motVariant (op.source s.cfg.motVariant) := by
  cases i with
  | motOn m =>
    have hv : s.cfg.motVariant = .a := by
      by_contra hv
      cases (if_neg hv).symm.trans h
    exact ⟨.motOn m, rfl, motOn_mem_heldOps hv m⟩
  | motOvf =>
    have hv : s.cfg.motVariant = .b := by
      by_contra hv
      cases (if_neg hv).symm.trans h
    exact ⟨.motOvf, rfl, motOvf_mem_heldOps hv⟩
  | motOff m => exact ⟨.motOff m, rfl, motOff_mem_heldOps _ m⟩
  | escAssert => exact ⟨.escAssert, rfl, escAssert_mem_heldOps _⟩
  | escDeassert => exact ⟨.escDeassert, rfl, escDeassert_mem_heldOps _⟩
  | tmrTick k => exact absurd rfl (hk k)
  | irqEnable => cases hh
  | _ => cases hp

theorem exec_tmr_writer {i : Instr} (h : exec i s = .next t) : t.tmr = s.tmr ∨ ∃ k, i = .tmrTick k := by
  by_cases hk : ∃ k, i = .tmrTick k
  · exact .inr hk
  refine .inl ?_
  obtain hb | hm | ⟨k, rfl⟩ | ⟨hp, hh⟩ | ⟨hb, hm, hp⟩ := instr_families i
  · rw [exec_bus_frame hb h]
  · rw [exec_motorCommand_frame hm h]
  · obtain ⟨src, -, hserved⟩ := execIrqEnable_served h
    exact hserved.tmr
  · obtain ⟨op, rfl, hop⟩ := timerOp_of_exec hp hh (not_exists.mp hk) h
    rw [(due_handlersOnly ((exec_timerOp hop).symm.trans h)).state]
  · rw [exec_sensing_frame hb hm hp h]

/-! BusDriver. -/

/-- What an operation writes of BusDriver's fields. -/
inductive BusWritten (s : State) (i : Instr) (t : State) : Prop
  | same (h : t.bus = s.bus)
  /-- BUS.INIT (R130) -/
  | init (hi : ∃ hz, i = .busInit hz) (hrest : s.bus.busy = false)
  /-- The entry of a call (R132, R133) -/
  | entry (hi : (∃ p, i = .busSend p) ∨ ∃ n, i = .busRecv n)
      (h : t.bus = { s.bus with
        busy := true, dir := t.bus.dir, buf := t.bus.buf, len := t.bus.len, cur := t.bus.cur, curSet := t.bus.curSet
        outcome := t.bus.outcome })
  /-- The handler, run at once or as it is served (R136 to R149) -/
  | handled (hi : isListedEvent i = true ∨ i = .irqEnable 0#3)
      (h : t.bus = { s.bus with
        busy := t.bus.busy, link := t.bus.link, buf := t.bus.buf, cur := t.bus.cur, curSet := t.bus.curSet
        outcome := t.bus.outcome, ackarm := t.bus.ackarm })
      (hbusy : t.bus.busy = true → s.bus.busy = true)
      (hack : t.bus.ackarm = s.bus.ackarm ∨ i = .evSlarAck ∨ (∃ d, i = .evRxdAck d) ∨ i = .irqEnable 0#3)
  /-- EV.STOPDONE (R147) -/
  | stopped (hi : i = .evStopdone) (h : t.bus = { s.bus with link := .idle })

/-- What the handler of a listed event leaves: the divisor, the direction and the length; it begins no transaction, and
writes the armed acknowledge on two events only. -/
theorem handleCode_bus {c : BusCode} {d : Option Byte} (h : handleCode c d s = .next t) :
    t.bus = { s.bus with
        busy := t.bus.busy, link := t.bus.link, buf := t.bus.buf, cur := t.bus.cur, curSet := t.bus.curSet
        outcome := t.bus.outcome, ackarm := t.bus.ackarm } ∧
      (t.bus.busy = true → s.bus.busy = true) ∧ (t.bus.ackarm = s.bus.ackarm ∨ c = .slarAck ∨ c = .rxdAck) := by
  cases c with
  | start | rstart => obtain rfl := Host.Outcome.next.inj h; exact ⟨rfl, id, .inl rfl⟩
  | slawNack | txdNack | slarNack =>
    obtain rfl := Host.Outcome.next.inj h
    exact ⟨rfl, by simp, .inl rfl⟩
  | slawAck | txdAck =>
    obtain ⟨-, ⟨-, -, _, _, -, rfl, rfl⟩ | ⟨-, rfl⟩⟩ := handleSendAck_next h
    · exact ⟨rfl, id, .inl rfl⟩
    · exact ⟨rfl, by simp, .inl rfl⟩
  | slarAck =>
    obtain ⟨-, ⟨-, rfl⟩ | ⟨-, _, rfl, rfl⟩⟩ := handleSlarAck_next h <;> exact ⟨rfl, id, .inr (.inl rfl)⟩
  | rxdAck =>
    obtain ⟨_, _, -, -, -, rfl, ⟨-, rfl⟩ | ⟨-, rfl⟩⟩ := handleRxdAck_next h <;> exact ⟨rfl, id, .inr (.inr rfl)⟩
  | rxdNack =>
    obtain ⟨_, -, -, -, rfl⟩ := handleRxdNack_next h
    exact ⟨rfl, by simp, .inl rfl⟩

theorem busEvent_busWritten {i : Instr} {c : BusCode} {d : Option Byte} (hi : Raises i c d)
    (h : exec i s = .next t) : BusWritten s i t := by
  rw [hi.exec] at h
  obtain ⟨-, -, _, _, _, -, _, rfl, ⟨-, h⟩ | ⟨-, rfl⟩⟩ := busEvent_next h
  · obtain ⟨hbus, hbusy, hack⟩ := handleCode_bus h
    refine .handled (.inl hi.listed) hbus hbusy (hack.imp_right ?_)
    rintro (rfl | rfl)
    · cases hi; exact .inl rfl
    · cases hi; exact .inr (.inl ⟨_, rfl⟩)
  · exact .same rfl

theorem irqEnable_bus_busWritten (h : execIrqEnable 0#3 s = .next t) : BusWritten s (.irqEnable 0#3) t := by
  obtain ⟨-, rfl⟩ | ⟨_, -, ⟨-, rfl⟩ | ⟨_, -, -, h⟩⟩ := servePending_next (execIrqEnable_bus_next h)
  · exact .same rfl
  · exact .same rfl
  · obtain ⟨hbus, hbusy, -⟩ := handleCode_bus h
    exact .handled (.inr rfl) hbus hbusy (.inr (.inr (.inr rfl)))

theorem exec_busWritten {i : Instr} (h : exec i s = .next t) : BusWritten s i t := by
  by_cases hlisted : isListedEvent i = true
  · obtain ⟨c, d, hi⟩ := exists_raises hlisted
    exact busEvent_busWritten hi h
  by_cases hquiet : isBusOp i = false ∧ i ≠ .irqEnable 0#3
  · exact .same (exec_sameBusDriver hquiet.1 hquiet.2 h).1
  cases i with
  | busInit hz => exact .init ⟨hz, rfl⟩ (execBusInit_eq_next.mp h).2.1
  | busSend p =>
    obtain ⟨-, -, -, -, -, h⟩ := callEntry_eq_next.mp h
    obtain rfl := Host.Outcome.next.inj h
    exact .entry (.inl ⟨p, rfl⟩) rfl
  | busRecv n =>
    obtain ⟨-, -, -, -, -, h⟩ := callEntry_eq_next.mp h
    obtain rfl := Host.Outcome.next.inj h
    exact .entry (.inr ⟨n, rfl⟩) rfl
  | busRet => obtain ⟨-, -, -, _, rfl⟩ := execBusRet_next h; exact .same rfl
  | evOther => exact .same (by rw [(execEvOther_frame h).1])
  | evStopdone => obtain ⟨-, rfl⟩ := execEvStopdone_next h; exact .stopped rfl rfl
  | irqEnable k =>
    obtain rfl : k = 0#3 := by simpa [isBusOp] using hquiet
    exact irqEnable_bus_busWritten h
  | _ => simp [isListedEvent, isBusOp] at hlisted hquiet

theorem BusWritten.busdiv_writer {i : Instr} (h : BusWritten s i t) :
    t.bus.busdiv = s.bus.busdiv ∨ ∃ hz, i = .busInit hz := by
  cases h with
  | init hi => exact .inr hi
  | same h | entry _ h | handled _ h | stopped _ h => exact .inl (by rw [h])

theorem BusWritten.transfer_writer {i : Instr} (h : BusWritten s i t) :
    (t.bus.dir = s.bus.dir ∧ t.bus.len = s.bus.len ∧ (t.bus.busy = true → s.bus.busy = true)) ∨
      (∃ hz, i = .busInit hz) ∨ (∃ p, i = .busSend p) ∨ ∃ n, i = .busRecv n := by
  cases h with
  | init hi => exact .inr (.inl hi)
  | entry hi => exact .inr (.inr hi)
  | handled _ h hbusy => exact .inl ⟨by rw [h], by rw [h], hbusy⟩
  | same h | stopped _ h => exact .inl ⟨by rw [h], by rw [h], by rw [h]; exact id⟩

theorem BusWritten.busy_clearer {i : Instr} (h : BusWritten s i t) (hbusy : s.bus.busy = true) :
    t.bus.busy = true ∨ isListedEvent i = true ∨ i = .irqEnable 0#3 := by
  cases h with
  | init _ hrest => simp [hbusy] at hrest
  | handled hi => exact .inr hi
  | entry _ h => exact .inl (by rw [h])
  | same h | stopped _ h => exact .inl (by rw [h]; exact hbusy)

theorem BusWritten.link_writer {i : Instr} (h : BusWritten s i t) :
    t.bus.link = s.bus.link ∨
      (∃ hz, i = .busInit hz) ∨ isListedEvent i = true ∨ i = .evStopdone ∨ i = .irqEnable 0#3 := by
  cases h with
  | init hi => exact .inr (.inl hi)
  | handled hi => exact .inr (.inr (hi.imp_right .inr))
  | stopped hi => exact .inr (.inr (.inr (.inl hi)))
  | same h | entry _ h => exact .inl (by rw [h])

theorem BusWritten.progress_writer {i : Instr} (h : BusWritten s i t) :
    (t.bus.cur = s.bus.cur ∧ t.bus.outcome = s.bus.outcome) ∨
      (∃ hz, i = .busInit hz) ∨ (∃ p, i = .busSend p) ∨ (∃ n, i = .busRecv n) ∨
        isListedEvent i = true ∨ i = .irqEnable 0#3 := by
  cases h with
  | init hi => exact .inr (.inl hi)
  | entry hi => exact .inr (.inr (hi.imp_right .inl))
  | handled hi => exact .inr (.inr (.inr (.inr hi)))
  | same h | stopped _ h => exact .inl (by rw [h]; exact ⟨rfl, rfl⟩)

theorem BusWritten.ackarm_writer {i : Instr} (h : BusWritten s i t) :
    t.bus.ackarm = s.bus.ackarm ∨
      (∃ hz, i = .busInit hz) ∨ i = .evSlarAck ∨ (∃ d, i = .evRxdAck d) ∨ i = .irqEnable 0#3 := by
  cases h with
  | init hi => exact .inr (.inl hi)
  | handled _ _ _ hack => exact hack.imp_right .inr
  | same h | entry _ h | stopped _ h => exact .inl (by rw [h])

/-- BUS.INIT leaves the buffer as it is (log 22). -/
theorem exec_buf_writer {i : Instr} (h : exec i s = .next t) :
    t.bus.buf = s.bus.buf ∨
      (∃ p, i = .busSend p) ∨ (∃ n, i = .busRecv n) ∨ isListedEvent i = true ∨ i = .irqEnable 0#3 := by
  cases exec_busWritten h with
  | init hi => obtain ⟨_, rfl⟩ := hi; obtain ⟨-, -, _, -, rfl⟩ := execBusInit_eq_next.mp h; exact .inl rfl
  | entry hi => exact .inr (hi.imp_right .inl)
  | handled hi => exact .inr (.inr (.inr hi))
  | same h | stopped _ h => exact .inl (by rw [h])

/-! The host that waits for ever. -/

/-- A listed event of the disabled source leaves BusDriver as it is (R127). -/
theorem exec_listed_disabled_bus {i : Instr} (hi : isListedEvent i = true) (hdis : s.irq.enBus = false)
    (h : exec i s = .next t) : t.bus = s.bus := by
  obtain ⟨c, d, hi⟩ := exists_raises hi
  rw [hi.exec] at h
  obtain ⟨-, -, _, _, _, -, _, rfl, ⟨hen, -⟩ | ⟨-, rfl⟩⟩ := busEvent_next h
  · simp [hdis] at hen
  · rfl

/-- While the host is blocked and a transaction is in flight, no host operation answers: BUS.RET waits for the bus. -/
theorem isHostOp_false_of_waiting {i : Instr} (hblocked : s.blocked ≠ .none) (hbusy : s.bus.busy = true)
    (h : exec i s = .next t) : isHostOp i = false := by
  by_contra hi
  have hret : i = .busRet := by
    by_contra hret
    exact hblocked (exec_hostOp_free (by simpa using hi) hret h)
  subst hret
  have hrest := (execBusRet_next h).1
  simp [hbusy] at hrest

/-! The statements. -/

/-- Settles O25: only the host could enable the source or leave the call, and an event of the disabled source is held. -/
theorem hungHostStaysHung : Obligations.HungHostStaysHung := by
  rintro i s t ⟨hblocked, hbusy, hdis⟩ h
  have hhost := isHostOp_false_of_waiting hblocked hbusy h
  have hkept : t.blocked = s.blocked :=
    exec_blocked h (by rintro p rfl; cases hhost) (by rintro n rfl; cases hhost) (by rintro rfl; cases hhost)
  refine ⟨hkept ▸ hblocked, ?_, ?_⟩
  · obtain hkept | hi | rfl := (exec_busWritten h).busy_clearer hbusy
    · exact hkept
    · rw [exec_listed_disabled_bus hi hdis h]; exact hbusy
    · cases hhost
  · obtain hkept | ⟨_, rfl, -⟩ | ⟨_, rfl⟩ | ⟨_, rfl⟩ := exec_en_writer h .bus
    · exact hkept.trans hdis
    · cases hhost
    · cases hhost
    · cases hhost

/-- Settles O22, group by group. -/
theorem oneWriterPerFieldGroup : Obligations.OneWriterPerFieldGroup := by
  intro i s t h
  have hcommand := exec_commandWritten h
  have hbus := exec_busWritten h
  refine ⟨exec_cfg h, fun hne => ?_, fun hne => (exec_pd_writer h).resolve_left hne, fun hne => ?_,
    fun m hne => (hcommand.power_writer m).resolve_left hne,
    fun m hne => (hcommand.offthr_writer m).resolve_left hne,
    fun hne => hcommand.escpower_writer.resolve_left hne, fun hne => hcommand.escshut_writer.resolve_left hne,
    fun hne => hcommand.escwidth_writer.resolve_left hne, fun hne => (exec_tmr_writer h).resolve_left hne,
    fun hne => hbus.busdiv_writer.resolve_left hne, fun hne => ?_,
    fun src hne => (exec_en_writer h src).resolve_left hne, fun hne => ?_, fun ⟨hclear, hset⟩ => ?_,
    fun hne => hbus.link_writer.resolve_left hne, fun hne => ?_,
    fun hne => hbus.ackarm_writer.resolve_left hne, fun hne => (exec_buf_writer h).resolve_left hne⟩
  · obtain ⟨xl, xh, yl, yh, zl, zh, hi, -⟩ := (exec_ori h).resolve_left hne
    exact ⟨xl, xh, yl, yh, zl, zh, hi⟩
  · exact (exec_tickCounter_writer h).resolve_left fun ⟨hn, hm⟩ => hne.elim (· hn) (· hm)
  · by_contra hi
    obtain ⟨-, hesc, -, hmot⟩ := exec_samePins (Bool.eq_false_of_not_eq_true hi) h
    obtain ⟨m, hpin⟩ | hpin := hne
    · obtain ⟨hA, hB, -⟩ := hmot m
      exact hpin.elim (· hA) (· hB)
    · exact hpin hesc
  · refine hbus.transfer_writer.resolve_left ?_
    rintro ⟨hdir, hlen, hbusy⟩
    obtain hd | hl | ⟨hset, hclear⟩ := hne
    · exact hd hdir
    · exact hl hlen
    · simp [hbusy hset] at hclear
  · exact (hbus.busy_clearer hset).resolve_left (by simp [hclear])
  · exact hbus.progress_writer.resolve_left fun ⟨hcur, hout⟩ => hne.elim (· hcur) (· hout)

end Sys2Proof.Machine

/-!
The display tick beside the other handlers (`60_exceptions.md` R280): it writes the tick counters, or its own pending
bit, and no other handler reads or writes these.
-/

namespace Sys2Proof.Machine

variable {s t : State} {a b : Word16} {held : Bool}

/-- The fields the display tick writes, replaced (R251, R278). -/
def State.setDisplay (a b : Word16) (held : Bool) (s : State) : State :=
  { s with tickn := a, tickm := b, irq := { s.irq with pendDisplay := held } }

@[simp] theorem setDisplay_motor (m : MotorId) : (s.setDisplay a b held).motor m = s.motor m := by cases m <;> rfl
@[simp] theorem setDisplay_en (src : Source) : (s.setDisplay a b held).irq.en src = s.irq.en src :=
  en_set_pendDisplay _ _ _

/-- What the display tick reads and writes is as it was. -/
structure SameDisplay (s t : State) : Prop where
  tickn : t.tickn = s.tickn
  tickm : t.tickm = s.tickm
  pend : t.irq.pendDisplay = s.irq.pendDisplay
  en : t.irq.en .display = s.irq.en .display

/-- The display tick does the same in all states that agree on what it reads. -/
theorem exec_schDtick_setDisplay (s : State) :
    ∃ a b held, ∀ t, SameDisplay s t → exec .schDtick t = .next (t.setDisplay a b held) := by
  cases hen : s.irq.enDisplay with
  | true =>
    refine ⟨satInc s.tickn, satInc s.tickm, s.irq.pendDisplay, fun t h => ?_⟩
    rw [exec_schDtick_enabled (h.en.trans hen), ← h.tickn, ← h.tickm, ← h.pend]
    rfl
  | false =>
    refine ⟨s.tickn, s.tickm, true, fun t h => ?_⟩
    rw [exec_schDtick_disabled (h.en.trans hen), ← h.tickn, ← h.tickm]
    rfl

/-! The handlers that run the same whatever the display tick has written. -/

/-- `k` neither reads nor writes the fields of the display tick. -/
def Blind (k : State → Out) : Prop :=
  ∀ ⦃s t : State⦄ ⦃a b : Word16⦄ ⦃held : Bool⦄, k s = .next t →
    k (s.setDisplay a b held) = .next (t.setDisplay a b held)

theorem Blind.run {k : State → Out} (hk : Blind k) (h : k s = .next t) (a b : Word16) (held : Bool) :
    k (s.setDisplay a b held) = .next (t.setDisplay a b held) := hk h

theorem Blind.andThen {k l : State → Out} (hk : Blind k) (hl : Blind l) : Blind fun s => andThen (k s) l := by
  intro s t a b held h
  obtain ⟨u, hu, ht⟩ := andThen_eq_next.mp h
  exact andThen_eq_next.mpr ⟨_, hk hu, hl ht⟩

/-! Bus events. -/

theorem blind_handleCode (c : BusCode) (d : Option Byte) : Blind (handleCode c d) := by
  intro s t a b held h
  cases c with
  | start | rstart | slawNack | txdNack | slarNack => obtain rfl := Host.Outcome.next.inj h; rfl
  | slawAck | txdAck =>
    obtain ⟨hset, ⟨hlt, hcap, v, _, hv, rfl, rfl⟩ | ⟨hle, rfl⟩⟩ := handleSendAck_next h
    · exact handleSendAck_more (s := s.setDisplay a b held) hset hlt (bufRead_of_some hcap hv)
    · exact handleSendAck_last (s := s.setDisplay a b held) hset hle
  | slarAck =>
    obtain ⟨hset, ⟨hone, rfl⟩ | ⟨hmany, _, rfl, rfl⟩⟩ := handleSlarAck_next h
    · exact handleSlarAck_one (s := s.setDisplay a b held) hset hone
    · exact handleSlarAck_many (s := s.setDisplay a b held) hset hmany
  | rxdAck =>
    obtain ⟨v, _, rfl, hset, hcap, rfl, ⟨hone, rfl⟩ | ⟨hmany, rfl⟩⟩ := handleRxdAck_next h
    · exact handleRxdAck_one (s := s.setDisplay a b held) hset hcap hone
    · exact handleRxdAck_many (s := s.setDisplay a b held) hset hcap hmany
  | rxdNack =>
    obtain ⟨v, rfl, hset, hcap, rfl⟩ := handleRxdNack_next h
    exact handleRxdNack_stored (s := s.setDisplay a b held) hset hcap

theorem blind_busEvent (c : BusCode) (d : Option Byte) : Blind (busEvent c d) := by
  intro s t a b held h
  obtain ⟨hctx, hevt, sym, ph, own, hans, _, rfl, ⟨hen, hrun⟩ | ⟨hdis, rfl⟩⟩ := busEvent_next h
  · exact (busEvent_enabled (s := s.setDisplay a b held) hctx hevt hans hen).trans (blind_handleCode c d hrun)
  · exact busEvent_disabled (s := s.setDisplay a b held) hctx hevt hans hdis

theorem blind_execEvOther (st : Byte) : Blind (execEvOther st) := by
  intro s t a b held h
  obtain ⟨hcode, _, rfl, ⟨hen, rfl⟩ | ⟨hdis, hevt, rfl⟩⟩ := execEvOther_next h
  · exact (execEvOther_delivered (s := s.setDisplay a b held) hcode (.inl hen)).trans (deliver_enabled hen)
  · exact (execEvOther_delivered (s := s.setDisplay a b held) hcode (.inr hevt)).trans (deliver_disabled hdis)

theorem blind_execEvStopdone : Blind execEvStopdone := by
  intro s t a b held h
  obtain ⟨hctx, rfl⟩ := execEvStopdone_next h
  exact if_pos hctx

/-! The sampler tick. -/

theorem blind_execPdTick (lv : BitVec 5) : Blind (execPdTick lv) := by
  intro s t a b held h
  have hsrc := (withDecoder_eq_next.mp h).1
  obtain ⟨_, rfl, ⟨hen, rfl⟩ | ⟨hdis, rfl⟩⟩ := execPdTick_next h
  · exact exec_pdTick_run (s := s.setDisplay a b held) lv hsrc hen
  · exact exec_pdTick_held (s := s.setDisplay a b held) lv hsrc hdis

/-! The handlers of the timers. -/

theorem driveOn_setDisplay (m : MotorId) :
    driveOn m (s.setDisplay a b held) = (driveOn m s).setDisplay a b held := by
  unfold driveOn
  rw [setDisplay_motor]
  change (if fullyOff s.cfg (s.motor m).power then _ else _) = _
  split
  · rfl
  · cases m <;> rfl

theorem driveOff_setDisplay (m : MotorId) :
    driveOff m (s.setDisplay a b held) = (driveOff m s).setDisplay a b held := by
  unfold driveOff
  rw [setDisplay_motor]
  change (if fullyOn s.cfg (s.motor m).power then _ else _) = _
  split
  · rfl
  · cases m <;> rfl

theorem blind_onBody (m : MotorId) : Blind (onBody m) := by
  intro s t a b held h
  have hset := (onBody_next h).1
  obtain rfl := Host.Outcome.next.inj ((onBody_of_set hset).symm.trans h)
  rw [onBody_of_set (by rwa [setDisplay_motor]), driveOn_setDisplay]

theorem blind_offBody (m : MotorId) : Blind (offBody m) := by
  intro s t a b held h
  have hset := (offBody_next h).1
  obtain rfl := Host.Outcome.next.inj ((offBody_of_set hset).symm.trans h)
  rw [offBody_of_set (by rwa [setDisplay_motor]), driveOff_setDisplay]

theorem blind_assertBody : Blind assertBody := by
  intro s t a b held h
  obtain ⟨hset, ⟨hshut, rfl⟩ | ⟨hshut, rfl⟩⟩ := assertBody_next h
  · exact (assertBody_of_set (s := t.setDisplay a b held) hset).trans (congrArg _ (if_pos hshut))
  · exact (assertBody_of_set (s := s.setDisplay a b held) hset).trans (congrArg _ (if_neg (Bool.eq_false_iff.mp hshut)))

theorem blind_runTimerOp (op : TimerOp) : Blind (runTimerOp op) := by
  intro s t a b held h
  cases op with
  | motOn m =>
    simp only [runTimerOp] at h
    split at h
    · next hv => exact (if_pos hv).trans (blind_onBody m h)
    · cases h
  | motOff m => exact blind_offBody m h
  | motOvf =>
    simp only [runTimerOp] at h
    split at h
    · next hv => exact (if_pos hv).trans ((blind_onBody .m0).andThen (blind_onBody .m1) h)
    · cases h
  | escAssert => exact blind_assertBody h
  | escDeassert => obtain rfl := Host.Outcome.next.inj h; rfl

/-- The display tick is in no list. -/
theorem hold_set_pendDisplay (q : Irq) (src : Source) (op : TimerOp) (held : Bool) :
    Irq.hold { q with pendDisplay := held } src op = { q.hold src op with pendDisplay := held } := by
  unfold Irq.hold
  rw [pend_set_pendDisplay]
  split
  · rfl
  · cases src <;> rfl

theorem blind_due (op : TimerOp) : Blind (due op) := by
  intro s t a b held h
  obtain ⟨hen, hrun⟩ | ⟨hdis, rfl⟩ := due_next h
  · exact (due_enabled (s := s.setDisplay a b held) (by rwa [setDisplay_en])).trans (blind_runTimerOp op hrun)
  · refine (due_disabled (s := s.setDisplay a b held) (by rwa [setDisplay_en])).trans ?_
    rw [State.setDisplay, hold_set_pendDisplay]
    rfl

theorem blind_dueIf (c : Bool) (op : TimerOp) : Blind (dueIf c op) := by
  intro s t a b held h
  cases c with
  | true => exact blind_due op h
  | false => obtain rfl := Host.Outcome.next.inj h; rfl

theorem meetsOff_setDisplay (m : MotorId) (n : Nat) : meetsOff m n (s.setDisplay a b held) = meetsOff m n s := by
  unfold meetsOff
  rw [setDisplay_motor]

/-- The compare with the off threshold, and what falls due of it. -/
theorem blind_dueOff (m : MotorId) (n : Nat) : Blind fun s => dueIf (meetsOff m n s) (.motOff m) s := by
  intro s t a b held h
  dsimp only
  rw [meetsOff_setDisplay]
  exact blind_dueIf _ _ h

theorem blind_tickBrushed (m : MotorId) : Blind (tickBrushed m) := by
  intro s t a b held h
  obtain ⟨u, hon, hoff⟩ := andThen_eq_next.mp h
  have hon' := (blind_dueIf _ _).run hon a b held
  have hoff' := (blind_dueOff m _).run hoff a b held
  exact andThen_eq_next.mpr ⟨_, hon', hoff'⟩

theorem blind_tickShared : Blind tickShared := by
  intro s t a b held h
  obtain ⟨u, hovf, h⟩ := andThen_eq_next.mp h
  obtain ⟨v, hoff0, hoff1⟩ := andThen_eq_next.mp h
  have hovf' := (blind_dueIf _ _).run hovf a b held
  have hoff0' := (blind_dueOff .m0 _).run hoff0 a b held
  have hoff1' := (blind_dueOff .m1 _).run hoff1 a b held
  exact andThen_eq_next.mpr ⟨_, hovf', andThen_eq_next.mpr ⟨_, hoff0', hoff1'⟩⟩

theorem blind_tickEsc : Blind tickEsc := by
  intro s t a b held h
  obtain ⟨u, hassert, hdeassert⟩ := andThen_eq_next.mp h
  have hassert' := (blind_dueIf _ _).run hassert a b held
  have hdeassert' := (blind_dueIf _ _).run hdeassert a b held
  exact andThen_eq_next.mpr ⟨_, hassert', hdeassert'⟩

theorem blind_exec_tmrTick (k : BitVec 2) : Blind (exec (.tmrTick k)) := by
  intro s t a b held h
  have timers : ∀ k : BitVec 2, k = 0#2 ∨ k = 1#2 ∨ k = 2#2 ∨ k = 3#2 := by decide
  obtain rfl | rfl | rfl | rfl := timers k
  · cases hv : s.cfg.motVariant with
    | a =>
      have hm : (MotorId.m0, 0#2) ∈ [(MotorId.m0, 0#2), (.m1, 1#2)] := by decide
      rw [exec_tmrTick_brushed hv hm] at h
      exact (exec_tmrTick_brushed (s := s.setDisplay a b held) hv hm).trans (blind_tickBrushed .m0 h)
    | b =>
      rw [exec_tmrTick_shared hv] at h
      exact (exec_tmrTick_shared (s := s.setDisplay a b held) hv).trans (blind_tickShared h)
  · cases hv : s.cfg.motVariant with
    | a =>
      have hm : (MotorId.m1, 1#2) ∈ [(MotorId.m0, 0#2), (.m1, 1#2)] := by decide
      rw [exec_tmrTick_brushed hv hm] at h
      exact (exec_tmrTick_brushed (s := s.setDisplay a b held) hv hm).trans (blind_tickBrushed .m1 h)
    | b => simp [exec, execTmrTick, hv] at h
  · exact blind_tickEsc h
  · cases h

theorem blind_exec_timerEvent {i : Instr} (hp : mayDrivePins i = true) (hh : isHostOp i = false) :
    Blind (exec i) := by
  by_cases hk : ∃ k, i = .tmrTick k
  · obtain ⟨k, rfl⟩ := hk
    exact blind_exec_tmrTick k
  · intro s t a b held h
    obtain ⟨op, rfl, hop⟩ := timerOp_of_exec hp hh (not_exists.mp hk) h
    have hdue := (blind_due op).run ((exec_timerOp hop).symm.trans h) a b held
    exact (exec_timerOp (s := s.setDisplay a b held) hop).trans hdue

/-- Every handler operation but the display tick itself. -/
theorem blind_exec {i : Instr} (hh : isHostOp i = false) (hi : i ≠ .schDtick) : Blind (exec i) := by
  by_cases hp : mayDrivePins i = true
  · exact blind_exec_timerEvent hp hh
  by_cases hlisted : isListedEvent i = true
  · obtain ⟨c, d, hraise⟩ := exists_raises hlisted
    intro s t a b held h
    rw [hraise.exec] at h ⊢
    exact blind_busEvent c d h
  cases i with
  | pdTick lv => exact blind_execPdTick lv
  | evOther st => exact blind_execEvOther st
  | evStopdone => exact blind_execEvStopdone
  | schDtick => exact absurd rfl hi
  | _ => simp [isHostOp, mayDrivePins, isListedEvent] at hh hp hlisted

/-- A handler operation other than the display tick leaves what that reads and writes. -/
theorem exec_sameDisplay {i : Instr} (hh : isHostOp i = false) (hi : i ≠ .schDtick) (h : exec i s = .next t) :
    SameDisplay s t := by
  obtain ⟨hn, hm⟩ : t.tickn = s.tickn ∧ t.tickm = s.tickm := by
    obtain hsame | rfl | ⟨_, rfl⟩ | ⟨_, rfl⟩ := exec_tickCounter_writer h
    · exact hsame
    · exact absurd rfl hi
    · cases hh
    · cases hh
  have hen : t.irq.en .display = s.irq.en .display := by
    obtain hsame | ⟨_, rfl, -⟩ | ⟨_, rfl⟩ | ⟨_, rfl⟩ := exec_en_writer h .display
    · exact hsame
    · cases hh
    · cases hh
    · cases hh
  refine ⟨hn, hm, ?_, hen⟩
  obtain hb | hc | ⟨k, rfl⟩ | ⟨hp, -⟩ | ⟨hb, hc, hp⟩ := instr_families i
  · obtain hirq | ⟨⟨_, rfl⟩, -⟩ := exec_bus_irq hb h
    · rw [hirq]
    · cases hh
  · rw [exec_motorCommand_frame hc h]
  · cases hh
  · obtain ⟨_, hrun⟩ := exec_timerEvent_handlersOnly hp hh h
    exact hrun.pendDisplay
  · cases i with
    | pdTick => obtain ⟨_, rfl, ⟨-, rfl⟩ | ⟨-, rfl⟩⟩ := execPdTick_next h <;> rfl
    | schDtick => exact absurd rfl hi
    | _ => simp [isHostOp, isBusOp, isMotorCommand, mayDrivePins] at hh hb hc hp

/-! The statement. -/

/-- Settles O23: the other operation neither reads nor writes what the display tick does. -/
theorem displayTickCommutes : Obligations.DisplayTickCommutes := by
  intro i s t hh hi h
  obtain ⟨a, b, held, htick⟩ := exec_schDtick_setDisplay s
  exact ⟨_, _, htick s ⟨rfl, rfl, rfl, rfl⟩, htick t (exec_sameDisplay hh hi h), blind_exec hh hi h⟩

end Sys2Proof.Machine

/-!
The state after reset (`70_reset_and_hazards.md` R300): its numbered fields, read through their accessors, and each
invariant there. At reset the host is free, the controller idle and no event pending, so most clauses of the invariants
have nothing to hold; what is left are the counters at zero, below the periods and windows that a valid configuration
makes positive.
-/

namespace Sys2Proof.Machine

variable {c : Config}

/-! The numbered fields at reset. -/

@[simp] theorem resetWith_motor (m : MotorId) : (State.resetWith c).motor m = Motor.reset := by cases m <;> rfl
@[simp] theorem resetWith_chan (id : ChanId) : (State.resetWith c).pd.chan id = Chan.reset := by cases id <;> rfl
@[simp] theorem resetWith_en (src : Source) : (State.resetWith c).irq.en src = false := by cases src <;> rfl
@[simp] theorem resetWith_pend (src : Source) : (State.resetWith c).irq.pend src = [] := by cases src <;> rfl
@[simp] theorem Timers.reset_tcnt (m : MotorId) : Timers.reset.tcnt m = 0#16 := by cases m <;> rfl

/-- No motor field is specified at reset. -/
theorem Motor.reset_unspecified :
    Motor.reset.powerSet = false ∧ Motor.reset.offthrSet = false ∧ Motor.reset.pinsSet = false := ⟨rfl, rfl, rfl⟩

/-! The invariants at reset. -/

/-- R154: no transaction is in flight, and the host is free. -/
theorem busInv_resetWith : BusInv (State.resetWith c) :=
  AtRest.busInv rfl
    { len_le := Nat.zero_le _
      cur_le := fun _ => Nat.le_refl _
      finished := fun hblocked => absurd rfl hblocked
      link := .inl rfl }

/-- R154 (i): the engine owns no bus, and an idle controller asks nothing of it. -/
theorem engInv_resetWith : EngInv (State.resetWith c) := by
  have hready : EngReady (State.resetWith c) .none := ⟨rfl, fun hbusy => Bool.noConfusion hbusy⟩
  exact (engInv_of_none rfl).mpr hready

/-- R154 (h): the whole buffer is unspecified, and no rule may read it: no call has been made. -/
theorem bufInv_resetWith : BufInv (State.resetWith c) := by
  have hidle : (State.resetWith c).bus.busy ≠ true := Bool.false_ne_true
  have hfree : (State.resetWith c).blocked ≠ .inRecv := by rintro ⟨⟩
  exact ⟨fun hb => absurd hb hidle, fun hb => absurd hb hidle, fun _ hr => absurd hr hfree, fun _ => rfl,
    fun hr => absurd hr hfree⟩

/-- R60: no cell of the buffer holds a value, as after a poisoning. -/
theorem memInv_resetWith : MemInv (State.resetWith c) := Memory.wf_poisoned

/-- R178: the accumulators are at zero, and no window is empty. -/
theorem decoderInv_resetWith (hv : c.Valid) : DecoderInv (State.resetWith c) := by
  refine decoderInv_iff.mpr fun id => ?_
  rw [resetWith_chan]
  exact ⟨Nat.le_refl _, (chanWindow_bounds hv id).1⟩

/-- R235: the count is 0, both signs are 0, and `downness` is unspecified. -/
theorem oriInv_resetWith : OriInv (State.resetWith c) :=
  ⟨Nat.zero_le _, fun _ => rfl, fun hset => Bool.noConfusion hset⟩

/-- R44: the counters of a valid configuration start below their periods. -/
theorem countersOk_reset (hv : c.Valid) : CountersOk c Timers.reset := by
  obtain ⟨-, -, -, -, -, ⟨htop, -⟩, -, ⟨-, -, hframe, -⟩, -⟩ := hv
  refine ⟨?_, Nat.zero_lt_of_lt hframe⟩
  split
  · intro m
    rw [Timers.reset_tcnt]
    exact Nat.zero_lt_of_lt htop
  · decide

/-- R42 to R44: besides the counters nothing has a range yet, for no threshold and no width is latched. -/
theorem timerInv_resetWith (hv : c.Valid) : TimerInv (State.resetWith c) := by
  refine timerInv_iff.mpr ⟨countersOk_reset hv, fun m => ?_, fun hset => Bool.noConfusion hset⟩
  rw [resetWith_motor]
  exact fun hset => Bool.noConfusion hset

/-- R52: every pending list is empty, and no other event is held. -/
theorem pendInv_resetWith : PendInv (State.resetWith c) := by
  refine pendInv_iff.mpr ⟨fun src => ?_, fun _ => rfl, fun _ => rfl, fun _ => rfl⟩
  unfold PendListOk
  rw [resetWith_pend]
  exact ⟨List.nodup_nil, fun _ hop => absurd hop List.not_mem_nil, fun _ => rfl⟩

/-! The statements. -/

/-- Settles O8: the plain fields by evaluation, the numbered ones by their values at reset. -/
theorem resetStateFields : Obligations.ResetStateFields := by
  intro c
  refine ⟨_, rfl, rfl, rfl, rfl, rfl, ⟨rfl, rfl⟩, rfl, rfl, rfl, rfl, rfl, rfl, rfl, rfl, ?channels, ⟨rfl, rfl, rfl⟩,
    ⟨rfl, rfl, rfl⟩, ⟨rfl, rfl⟩, fun src => ⟨resetWith_en src, resetWith_pend src⟩, ⟨rfl, rfl⟩,
    ⟨rfl, Memory.read?_nil⟩, rfl, ?motors, ⟨rfl, rfl, rfl, rfl⟩, ⟨rfl, rfl⟩⟩
  case channels =>
    intro id
    rw [resetWith_chan]
    exact ⟨rfl, rfl, rfl⟩
  case motors =>
    intro m
    rw [resetWith_motor]
    exact Motor.reset_unspecified

/-- Settles O9, invariant by invariant. -/
theorem resetMeetsInvariants : Obligations.ResetMeetsInvariants :=
  ⟨rfl, fun _ hv => ⟨busInv_resetWith, engInv_resetWith, bufInv_resetWith, memInv_resetWith, decoderInv_resetWith hv,
    oriInv_resetWith, timerInv_resetWith hv, pendInv_resetWith⟩⟩

end Sys2Proof.Machine
